-- ==== Sys2Proof/Word.lean ====
section
/-! DEFINITION. The words of THERMCTL: command words, source numbers, phase codes, samples, counts.

All registers hold unsigned values and bit 0 is the least significant bit (R12). -/

namespace Sys2Proof

/-- A command word, format CW (R100, R101). -/
abbrev CmdWord := BitVec 20

/-- An interrupt source number, format EV (R107). -/
abbrev SourceNumber := BitVec 3

/-- A sequencer phase code, format PH (R109). -/
abbrev PhaseCode := BitVec 5

/-- A raw analog sample, also the cooler duty and the PWM count (R22, R34, R36). -/
abbrev Sample := BitVec 10

/-- The heater timer's count and compare value (R31, R32). -/
abbrev Count := BitVec 16

/-- A word of one of the three formats; its length is known from its format alone (R100). -/
inductive Word where
  | cw (w : CmdWord)
  | ev (n : SourceNumber)
  | ph (p : PhaseCode)
  deriving DecidableEq, Repr

end Sys2Proof
end

