-- ==== Sys2Proof/Config.lean ====
section
/-! DEFINITION. What the spec leaves open: the order of the agents' steps, the display text, and the
durations that R11 names. Every constant here is opaque: no proof can see a value of it. -/

namespace Sys2Proof

/-- The steps without an encoding (R118): the counters' and the environment's own steps. A button
level `true` is 1, released; `false` is 0, asserted (R37). -/
inductive UnencodedStep where
  /-- One tick of the heater timer (R181). -/
  | htick
  /-- One tick of the cooler PWM counter (R193). -/
  | ctick
  /-- Button `k` takes level `v` (R131). -/
  | envBtn (k : Fin 3) (v : Bool)
  /-- Channel `k` takes value `v` (R39). -/
  | envAdc (k : Fin 3) (v : Sample)
  /-- The reset line is asserted, by power-on or the external watchdog (R350, R352). -/
  | reset
  deriving DecidableEq, Repr, Inhabited

/-- Which agent steps next: the sequencer, or one of the steps without an encoding (R16). A handler
is never chosen: a pending enabled request forces it (R318). -/
inductive AgentStep where
  | seq
  | other (a : UnencodedStep)
  deriving DecidableEq, Repr, Inhabited

namespace Config

/-- DESIGN CHOICE (log entry 2), a free value: which agent would step at the `n`-th step. R16 and R132 leave it
open, so nothing constrains it. -/
opaque schedule : Nat → AgentStep

/-- A free value (log entry 6): TEXT of R256, an uninterpreted function of the row, MODE, HYS, SP, T,
HC, HEATER_ON and COOLER_ON. -/
opaque displayText (row : Nat) (mode hys : BitVec 2) (sp t hc : Rat) (heaterOn coolerOn : Bool) : String

/-- T_HTICK of R11, the duration of one heater timer tick: OPEN. -/
opaque tHtick : Rat

/-- T_CTICK of R11, the duration of one cooler PWM tick: OPEN. -/
opaque tCtick : Rat

/-- F_SYS of R11, the system clock: OPEN, no rule reads it. -/
opaque fSys : Rat

/-- T_WDT of R11, the watchdog period: OPEN, no rule reads it. -/
opaque tWdt : Rat

/-- T_CONV of R11, the analog conversion time: OPEN, no rule reads it. -/
opaque tConv : Rat

end Config

end Sys2Proof
end

