-- ==== Sys2Proof/Syntax.lean ====
section
/-! DEFINITION. The encoded operations of THERMCTL: one constructor per row of the opcode table. -/

namespace Sys2Proof

/-- The operations that have an encoding: ten command words (format CW, R102), five interrupt
handlers (format EV, R108) and 26 sequencer phases (format PH, R110). Operands are the fields of the
word as R103 takes them; the operand of DISPLINE is the field value, the row number less 1. -/
inductive Instr where
  | wdtrefresh
  | sample (ch : BitVec 2)
  | btnstate (id : BitVec 2)
  | sethcmp (v : Count)
  | rsthtmr
  | enhint (b : BitVec 1)
  | sethout (b : BitVec 1)
  | setcduty (v : Sample)
  | encpwm (b : BitVec 1)
  | displine (rowField : BitVec 2)
  | irqTmrovf
  | irqCmpmatch
  | irqBtn0edge
  | irqBtn1edge
  | irqBtn2edge
  | seqSWdt
  | seqSSamp0
  | seqSSamp1
  | seqSSamp2
  | seqSEv0Check
  | seqSEv0Settle
  | seqSEv0Confirm
  | seqSEv0Waitrel
  | seqSEv0Relsettle
  | seqSEv1Check
  | seqSEv1Settle
  | seqSEv1Confirm
  | seqSEv1Waitrel
  | seqSEv1Relsettle
  | seqSEv2Check
  | seqSEv2Settle
  | seqSEv2Confirm
  | seqSEv2Waitrel
  | seqSEv2Relsettle
  | seqSRender
  | seqSExec0
  | seqSExec1
  | seqSExec2
  | seqSExec3
  | seqSExec4
  | seqSPace
  deriving DecidableEq, Repr

end Sys2Proof
end

