-- ==== Sys2Proof/WellFormed.lean ====
section
/-! DEFINITION. Which terms of Instr are operations: the index checks of R114. -/

namespace Sys2Proof

/-- Index 3 of SAMPLE and BTNSTATE is reserved (R114); every other operand field admits all its
values (R103). -/
def Instr.wellFormed (i : Instr) : Bool :=
  match i with
  | .wdtrefresh => true
  | .sample ch => ch != 3#2
  | .btnstate id => id != 3#2
  | .sethcmp _ => true
  | .rsthtmr => true
  | .enhint _ => true
  | .sethout _ => true
  | .setcduty _ => true
  | .encpwm _ => true
  | .displine _ => true
  | .irqTmrovf => true
  | .irqCmpmatch => true
  | .irqBtn0edge => true
  | .irqBtn1edge => true
  | .irqBtn2edge => true
  | .seqSWdt => true
  | .seqSSamp0 => true
  | .seqSSamp1 => true
  | .seqSSamp2 => true
  | .seqSEv0Check => true
  | .seqSEv0Settle => true
  | .seqSEv0Confirm => true
  | .seqSEv0Waitrel => true
  | .seqSEv0Relsettle => true
  | .seqSEv1Check => true
  | .seqSEv1Settle => true
  | .seqSEv1Confirm => true
  | .seqSEv1Waitrel => true
  | .seqSEv1Relsettle => true
  | .seqSEv2Check => true
  | .seqSEv2Settle => true
  | .seqSEv2Confirm => true
  | .seqSEv2Waitrel => true
  | .seqSEv2Relsettle => true
  | .seqSRender => true
  | .seqSExec0 => true
  | .seqSExec1 => true
  | .seqSExec2 => true
  | .seqSExec3 => true
  | .seqSExec4 => true
  | .seqSPace => true

end Sys2Proof
end

