-- ==== Sys2Proof/Decode.lean ====
section
/-! DEFINITION. Decoding and encoding of the three formats, and the opcode table's match and mask
columns. Decoding is total and refuses every reserved word by name (R112 to R114). -/

namespace Sys2Proof

/-- Why a word is no operation. -/
inductive Reserved where
  /-- A reserved opcode: 0x0 or 0xB to 0xF (R112). -/
  | opcode (op : BitVec 4)
  /-- An operand field with a non-zero unused bit (R101, R112). -/
  | operandBits (arg : BitVec 16)
  /-- Channel 3 or button 3 (R114). -/
  | index (i : BitVec 2)
  /-- Source number 5, 6 or 7 (R108, R114). -/
  | source (n : SourceNumber)
  /-- Phase code 26 to 31 (R113). -/
  | phase (p : PhaseCode)
  deriving DecidableEq, Repr

/-- `CW[19:16]`, the opcode (R101). -/
def opField (w : CmdWord) : BitVec 4 := w.extractLsb' 16 4

/-- `CW[15:0]`, the operand field (R101). -/
def argField (w : CmdWord) : BitVec 16 := w.extractLsb' 0 16

/-- The operand in the low `n` bits of the operand field, every other bit of which must be 0 (R101,
R103). -/
def operand (n : Nat) (arg : BitVec 16) (mk : BitVec n → Instr) : Except Reserved Instr :=
  if arg >>> n = 0#16 then .ok (mk (arg.setWidth n)) else .error (.operandBits arg)

/-- A channel or button index: two bits, of which the value 3 is reserved (R103, R114). -/
def indexOperand (arg : BitVec 16) (mk : BitVec 2 → Instr) : Except Reserved Instr :=
  if arg = 3#16 then .error (.index 3#2) else operand 2 arg mk

/-- An operation without an operand: the whole operand field must be 0 (R101). -/
def noOperand (arg : BitVec 16) (i : Instr) : Except Reserved Instr :=
  if arg = 0#16 then .ok i else .error (.operandBits arg)

/-- Format CW, by the opcode map of R102. -/
def decodeCW (w : CmdWord) : Except Reserved Instr :=
  match (opField w).toNat with
  | 1 => noOperand (argField w) .wdtrefresh
  | 2 => indexOperand (argField w) .sample
  | 3 => indexOperand (argField w) .btnstate
  | 4 => .ok (.sethcmp (argField w))
  | 5 => noOperand (argField w) .rsthtmr
  | 6 => operand 1 (argField w) .enhint
  | 7 => operand 1 (argField w) .sethout
  | 8 => operand 10 (argField w) .setcduty
  | 9 => operand 1 (argField w) .encpwm
  | 10 => operand 2 (argField w) .displine
  | _ => .error (.opcode (opField w))

/-- Format EV, by the source numbers of R108. -/
def decodeEV (n : SourceNumber) : Except Reserved Instr :=
  match n.toNat with
  | 0 => .ok .irqTmrovf
  | 1 => .ok .irqCmpmatch
  | 2 => .ok .irqBtn0edge
  | 3 => .ok .irqBtn1edge
  | 4 => .ok .irqBtn2edge
  | _ => .error (.source n)

/-- Format PH, by the phase codes of R110. -/
def decodePH (p : PhaseCode) : Except Reserved Instr :=
  match p.toNat with
  | 0 => .ok .seqSWdt
  | 1 => .ok .seqSSamp0
  | 2 => .ok .seqSSamp1
  | 3 => .ok .seqSSamp2
  | 4 => .ok .seqSEv0Check
  | 5 => .ok .seqSEv0Settle
  | 6 => .ok .seqSEv0Confirm
  | 7 => .ok .seqSEv0Waitrel
  | 8 => .ok .seqSEv0Relsettle
  | 9 => .ok .seqSEv1Check
  | 10 => .ok .seqSEv1Settle
  | 11 => .ok .seqSEv1Confirm
  | 12 => .ok .seqSEv1Waitrel
  | 13 => .ok .seqSEv1Relsettle
  | 14 => .ok .seqSEv2Check
  | 15 => .ok .seqSEv2Settle
  | 16 => .ok .seqSEv2Confirm
  | 17 => .ok .seqSEv2Waitrel
  | 18 => .ok .seqSEv2Relsettle
  | 19 => .ok .seqSRender
  | 20 => .ok .seqSExec0
  | 21 => .ok .seqSExec1
  | 22 => .ok .seqSExec2
  | 23 => .ok .seqSExec3
  | 24 => .ok .seqSExec4
  | 25 => .ok .seqSPace
  | _ => .error (.phase p)

/-- The operation a word stands for, or why it is none. -/
def decode (w : Word) : Except Reserved Instr :=
  match w with
  | .cw w => decodeCW w
  | .ev n => decodeEV n
  | .ph p => decodePH p

/-- The word of `nbits` bits numbered as the opcode table numbers them. The table's widths are 20, 3
and 5 bits, in whole bytes 24, 8 and 8: 8 bits alone cannot tell format EV from format PH, and are read
as format PH (DESIGN CHOICE, log entry 7). Bits above the format's width must be 0. -/
def tableWord (nbits w : Nat) : Option Word :=
  if nbits = 20 ∨ nbits = 24 then
    if w < 2 ^ 20 then some (.cw (BitVec.ofNat 20 w)) else none
  else if nbits = 3 then
    if w < 2 ^ 3 then some (.ev (BitVec.ofNat 3 w)) else none
  else if nbits = 5 ∨ nbits = 8 then
    if w < 2 ^ 5 then some (.ph (BitVec.ofNat 5 w)) else none
  else none

/-- The operation a word stands for, as an option. -/
def decode? (w : Word) : Option Instr :=
  match decode w with
  | .ok i => some i
  | .error _ => none

/-- The operation the decoder reads from a word of the opcode table (log entry 7). -/
def decodeTableWord (nbits w : Nat) : Option Instr :=
  match tableWord nbits w with
  | some x => decode? x
  | none => none

/-- A command word from its two fields (R101). -/
def cmdWord (op : BitVec 4) (arg : BitVec 16) : Word := .cw (op ++ arg)

/-- The word of an operation, written from the maps of R102, R108 and R110. -/
def encode (i : Instr) : Word :=
  match i with
  | .wdtrefresh => cmdWord 0x1#4 0#16
  | .sample ch => cmdWord 0x2#4 (ch.setWidth 16)
  | .btnstate id => cmdWord 0x3#4 (id.setWidth 16)
  | .sethcmp v => cmdWord 0x4#4 v
  | .rsthtmr => cmdWord 0x5#4 0#16
  | .enhint b => cmdWord 0x6#4 (b.setWidth 16)
  | .sethout b => cmdWord 0x7#4 (b.setWidth 16)
  | .setcduty v => cmdWord 0x8#4 (v.setWidth 16)
  | .encpwm b => cmdWord 0x9#4 (b.setWidth 16)
  | .displine r => cmdWord 0xA#4 (r.setWidth 16)
  | .irqTmrovf => .ev 0#3
  | .irqCmpmatch => .ev 1#3
  | .irqBtn0edge => .ev 2#3
  | .irqBtn1edge => .ev 3#3
  | .irqBtn2edge => .ev 4#3
  | .seqSWdt => .ph 0#5
  | .seqSSamp0 => .ph 1#5
  | .seqSSamp1 => .ph 2#5
  | .seqSSamp2 => .ph 3#5
  | .seqSEv0Check => .ph 4#5
  | .seqSEv0Settle => .ph 5#5
  | .seqSEv0Confirm => .ph 6#5
  | .seqSEv0Waitrel => .ph 7#5
  | .seqSEv0Relsettle => .ph 8#5
  | .seqSEv1Check => .ph 9#5
  | .seqSEv1Settle => .ph 10#5
  | .seqSEv1Confirm => .ph 11#5
  | .seqSEv1Waitrel => .ph 12#5
  | .seqSEv1Relsettle => .ph 13#5
  | .seqSEv2Check => .ph 14#5
  | .seqSEv2Settle => .ph 15#5
  | .seqSEv2Confirm => .ph 16#5
  | .seqSEv2Waitrel => .ph 17#5
  | .seqSEv2Relsettle => .ph 18#5
  | .seqSRender => .ph 19#5
  | .seqSExec0 => .ph 20#5
  | .seqSExec1 => .ph 21#5
  | .seqSExec2 => .ph 22#5
  | .seqSExec3 => .ph 23#5
  | .seqSExec4 => .ph 24#5
  | .seqSPace => .ph 25#5

/-- One row of the opcode table: a format with the row's mask and match (R102, R108, R110). -/
inductive Row where
  | cw (mask value : CmdWord)
  | ev (mask value : SourceNumber)
  | ph (mask value : PhaseCode)
  deriving DecidableEq, Repr

/-- A word selects the row of its format whose `W and mask = match` (R102). -/
def Row.selects (r : Row) (w : Word) : Bool :=
  match r, w with
  | .cw mask value, .cw w => w &&& mask == value
  | .ev mask value, .ev n => n &&& mask == value
  | .ph mask value, .ph p => p &&& mask == value
  | .cw _ _, .ev _ => false
  | .cw _ _, .ph _ => false
  | .ev _ _, .cw _ => false
  | .ev _ _, .ph _ => false
  | .ph _ _, .cw _ => false
  | .ph _ _, .ev _ => false

/-- The opcode table's row of an operation, from the match and mask columns of R102 and the whole
words of R108 and R110. -/
def opcodeRow (i : Instr) : Row :=
  match i with
  | .wdtrefresh => .cw 0xFFFFF#20 0x10000#20
  | .sample _ => .cw 0xFFFFC#20 0x20000#20
  | .btnstate _ => .cw 0xFFFFC#20 0x30000#20
  | .sethcmp _ => .cw 0xF0000#20 0x40000#20
  | .rsthtmr => .cw 0xFFFFF#20 0x50000#20
  | .enhint _ => .cw 0xFFFFE#20 0x60000#20
  | .sethout _ => .cw 0xFFFFE#20 0x70000#20
  | .setcduty _ => .cw 0xFFC00#20 0x80000#20
  | .encpwm _ => .cw 0xFFFFE#20 0x90000#20
  | .displine _ => .cw 0xFFFFC#20 0xA0000#20
  | .irqTmrovf => .ev 7#3 0#3
  | .irqCmpmatch => .ev 7#3 1#3
  | .irqBtn0edge => .ev 7#3 2#3
  | .irqBtn1edge => .ev 7#3 3#3
  | .irqBtn2edge => .ev 7#3 4#3
  | .seqSWdt => .ph 31#5 0#5
  | .seqSSamp0 => .ph 31#5 1#5
  | .seqSSamp1 => .ph 31#5 2#5
  | .seqSSamp2 => .ph 31#5 3#5
  | .seqSEv0Check => .ph 31#5 4#5
  | .seqSEv0Settle => .ph 31#5 5#5
  | .seqSEv0Confirm => .ph 31#5 6#5
  | .seqSEv0Waitrel => .ph 31#5 7#5
  | .seqSEv0Relsettle => .ph 31#5 8#5
  | .seqSEv1Check => .ph 31#5 9#5
  | .seqSEv1Settle => .ph 31#5 10#5
  | .seqSEv1Confirm => .ph 31#5 11#5
  | .seqSEv1Waitrel => .ph 31#5 12#5
  | .seqSEv1Relsettle => .ph 31#5 13#5
  | .seqSEv2Check => .ph 31#5 14#5
  | .seqSEv2Settle => .ph 31#5 15#5
  | .seqSEv2Confirm => .ph 31#5 16#5
  | .seqSEv2Waitrel => .ph 31#5 17#5
  | .seqSEv2Relsettle => .ph 31#5 18#5
  | .seqSRender => .ph 31#5 19#5
  | .seqSExec0 => .ph 31#5 20#5
  | .seqSExec1 => .ph 31#5 21#5
  | .seqSExec2 => .ph 31#5 22#5
  | .seqSExec3 => .ph 31#5 23#5
  | .seqSExec4 => .ph 31#5 24#5
  | .seqSPace => .ph 31#5 25#5

end Sys2Proof
end

