-- ==== Sys2Proof/Machine/State.lean ====
section
/-! DEFINITION. The state of THERMCTL: the sixteen registers of R42, and the model's own fields. -/

namespace Sys2Proof.Machine

/-- THERMCTL raises no exception and no operation, phase or handler can fault: the list of causes is
empty (R310), so nothing raises one and the type has no constructor (log entry 14). -/
inductive Fault where
  deriving DecidableEq, Repr

/-- Why the model gives a word or a term no meaning. -/
inductive Refusal where
  /-- Raised by an arm of `exec` whose instruction has no meaning yet. Safe: the run stops. -/
  | notModelled (mnemonic : String)
  /-- Raised by `step` on a reserved command word, source number or phase code, which R112 to R114
  and U6 say is refused. Safe: the run stops; the hardware never issues one. -/
  | reservedWord (r : Reserved)
  /-- Raised by the meanings of SAMPLE and BTNSTATE on the reserved index 3 (R114). Safe: the run
  stops; no decoder yields such a term. -/
  | reservedIndex (i : BitVec 2)
  deriving DecidableEq, Repr

/-- The registers whose values a display line shows, by R256 and U10. -/
structure DisplayFrame where
  mode : BitVec 2
  hys : BitVec 2
  raw0 : Sample
  raw1 : Sample
  raw2 : Sample
  flags : BitVec 2
  deriving DecidableEq, Repr

/-- One operation performed on the command port, with its operand and what it returns (R106). -/
inductive PortEvent where
  | wdtrefresh
  | sample (ch : Fin 3) (result : Sample)
  /-- `asserted` is the returned bit: true is 1, asserted (R106). -/
  | btnstate (id : Fin 3) (asserted : Bool)
  | sethcmp (v : Count)
  | rsthtmr
  | enhint (b : BitVec 1)
  | sethout (b : BitVec 1)
  | setcduty (v : Sample)
  | encpwm (b : BitVec 1)
  /-- `rowField` is the row less 1 (R103). -/
  | displine (rowField : BitVec 2) (shown : DisplayFrame)
  deriving DecidableEq, Repr

/-- The complete state: the sixteen registers of R42, then the model's own fields. -/
structure State where
  /-- MODE: 0 Off, 1 Heat, 2 Cool, 3 AutoCool (R29). -/
  mode : BitVec 2
  /-- HYS, the hysteresis level (R30). -/
  hys : BitVec 2
  /-- RAW[0], the setpoint sample (R22). -/
  raw0 : Sample
  /-- RAW[1], the control sample (R22). -/
  raw1 : Sample
  /-- RAW[2], the temperature sample (R22). -/
  raw2 : Sample
  /-- FLAGS: bit 0 HEATER_ON, bit 1 COOLER_ON (R26). -/
  flags : BitVec 2
  /-- PEND: bit k is the pending flag of event k (R27). -/
  pend : BitVec 3
  /-- PHASE, the code of the phase the next SEQ step executes (R25). -/
  phase : PhaseCode
  /-- HTMR, the free-running heater timer (R31). -/
  htmr : Count
  /-- HCMP, the heater compare register (R32). -/
  hcmp : Count
  /-- HCON: bit 0 HIE, bit 1 HEAT_OUT (R33). -/
  hcon : BitVec 2
  /-- CDUTY, the cooler duty (R34). -/
  cduty : Sample
  /-- CCON: bit 0 CPWMEN (R35). -/
  ccon : BitVec 1
  /-- CPWMCNT, the cooler PWM counter (R36). -/
  cpwmcnt : Sample
  /-- BTNR: bit k is BTN[k], 1 released, 0 asserted (R37). -/
  btnr : BitVec 3
  /-- IFR: bit n is the request latch IF[n] (R38). -/
  ifr : BitVec 5
  /-- The model's own: ADCVAL[0], an input of the block (R39; log entry 4). -/
  adc0 : Sample
  /-- The model's own: ADCVAL[1] (R39; log entry 4). -/
  adc1 : Sample
  /-- The model's own: ADCVAL[2] (R39; log entry 4). -/
  adc2 : Sample
  /-- The model's own: the scripted part of the order of the agents' steps, next first (log entry 2). -/
  agenda : List AgentStep
  /-- The model's own: counts the steps; the argument of `Config.schedule` (log entry 2). -/
  clock : Nat
  /-- The model's own: what the last step issued on the command port, in order (log entry 5). -/
  port : List PortEvent
  /-- The model's own: a command word presented from outside, which the next step performs alone (log
  entry 1). -/
  cmd : Option CmdWord
  deriving DecidableEq, Repr

/-- The machine right after reset: every register at its value of R42 and R350. The model's own
fields are 0 or empty (DESIGN CHOICE, log entries 4 and 16). -/
def State.reset : State where
  mode := 0#2
  hys := 0#2
  raw0 := 0#10
  raw1 := 0#10
  raw2 := 0#10
  flags := 0b00#2
  pend := 0b000#3
  phase := 0#5
  htmr := 0#16
  hcmp := 0#16
  hcon := 0b00#2
  cduty := 0#10
  ccon := 0#1
  cpwmcnt := 0#10
  btnr := 0b111#3
  ifr := 0b00000#5
  adc0 := 0#10
  adc1 := 0#10
  adc2 := 0#10
  agenda := []
  clock := 0
  port := []
  cmd := none

end Sys2Proof.Machine
end

