-- ==== Sys2Proof/Machine/Ops.lean ====
section
/-! DEFINITION. The named operations over the registers: bits, accessors, updates, the phase codes,
the command-port operations, and the interrupt mechanism (enable, priority, service). -/

namespace Sys2Proof.Machine

/-! ### Bits -/

/-- `v` with bit `i` written to `b`. -/
def setBit {w : Nat} (v : BitVec w) (i : Nat) (b : Bool) : BitVec w :=
  if b then v ||| BitVec.twoPow w i else v &&& ~~~(BitVec.twoPow w i)

/-! ### Readers -/

namespace State

/-- HEATER_ON, bit 0 of FLAGS (R26). -/
def heaterOn (s : State) : Bool := s.flags.getLsbD 0

/-- COOLER_ON, bit 1 of FLAGS (R26). -/
def coolerOn (s : State) : Bool := s.flags.getLsbD 1

/-- PEND[k] (R27). -/
def pendBit (s : State) (k : Fin 3) : Bool := s.pend.getLsbD k

/-- HIE, bit 0 of HCON (R33). -/
def hie (s : State) : Bool := s.hcon.getLsbD 0

/-- HEAT_OUT, bit 1 of HCON, and the output pin (R33, R40). -/
def heatOut (s : State) : Bool := s.hcon.getLsbD 1

/-- CPWMEN, bit 0 of CCON (R35). -/
def cpwmen (s : State) : Bool := s.ccon.getLsbD 0

/-- BTN[k]: true is released, false is asserted (R37). -/
def btn (s : State) (k : Fin 3) : Bool := s.btnr.getLsbD k

/-- IF[n] (R38). -/
def latch (s : State) (n : Fin 5) : Bool := s.ifr.getLsbD n

/-- ADCVAL[k] (R39). -/
def adc (s : State) (k : Fin 3) : Sample :=
  match k with
  | 0 => s.adc0
  | 1 => s.adc1
  | 2 => s.adc2

/-- COOL_OUT, a wire: `CPWMEN = 1 and CPWMCNT < CDUTY` (R194). -/
def coolOut (s : State) : Bool := s.cpwmen && decide (s.cpwmcnt < s.cduty)

/-- What a display line shows of the registers (R256). -/
def frame (s : State) : DisplayFrame :=
  { mode := s.mode, hys := s.hys, raw0 := s.raw0, raw1 := s.raw1, raw2 := s.raw2, flags := s.flags }

/-! ### Updates -/

/-- `MODE <- v`. -/
def setMode (s : State) (v : BitVec 2) : State := { s with mode := v }

/-- `HYS <- v`. -/
def setHys (s : State) (v : BitVec 2) : State := { s with hys := v }

/-- `RAW[k] <- v`. -/
def setRaw (s : State) (k : Fin 3) (v : Sample) : State :=
  { s with
    raw0 := if k = 0 then v else s.raw0
    raw1 := if k = 1 then v else s.raw1
    raw2 := if k = 2 then v else s.raw2 }

/-- `FLAGS <- v`. -/
def setFlags (s : State) (v : BitVec 2) : State := { s with flags := v }

/-- `PEND[k] <- b`. -/
def setPend (s : State) (k : Fin 3) (b : Bool) : State := { s with pend := setBit s.pend k b }

/-- `PHASE <- p`. -/
def setPhase (s : State) (p : PhaseCode) : State := { s with phase := p }

/-- `HTMR <- v`. -/
def setHtmr (s : State) (v : Count) : State := { s with htmr := v }

/-- `HCMP <- v`. -/
def setHcmp (s : State) (v : Count) : State := { s with hcmp := v }

/-- `HIE <- b`. -/
def setHie (s : State) (b : Bool) : State := { s with hcon := setBit s.hcon 0 b }

/-- `HEAT_OUT <- b`. -/
def setHeatOut (s : State) (b : Bool) : State := { s with hcon := setBit s.hcon 1 b }

/-- `CDUTY <- v`. -/
def setCduty (s : State) (v : Sample) : State := { s with cduty := v }

/-- `CPWMEN <- b`. -/
def setCpwmen (s : State) (b : Bool) : State := { s with ccon := setBit s.ccon 0 b }

/-- `CPWMCNT <- v`. -/
def setCpwmcnt (s : State) (v : Sample) : State := { s with cpwmcnt := v }

/-- `BTN[k] <- b`. -/
def setBtn (s : State) (k : Fin 3) (b : Bool) : State := { s with btnr := setBit s.btnr k b }

/-- `IF[n] <- b`. -/
def setLatch (s : State) (n : Fin 5) (b : Bool) : State := { s with ifr := setBit s.ifr n b }

/-- `ADCVAL[k] <- v`. -/
def setAdc (s : State) (k : Fin 3) (v : Sample) : State :=
  { s with
    adc0 := if k = 0 then v else s.adc0
    adc1 := if k = 1 then v else s.adc1
    adc2 := if k = 2 then v else s.adc2 }

/-- The port has performed `e`, after whatever this step issued before. -/
def issue (s : State) (e : PortEvent) : State := { s with port := s.port ++ [e] }

end State

/-! ### Phase codes (R110) -/

abbrev sWdt : PhaseCode := 0#5
abbrev sSamp0 : PhaseCode := 1#5
abbrev sSamp1 : PhaseCode := 2#5
abbrev sSamp2 : PhaseCode := 3#5
abbrev sEv0Check : PhaseCode := 4#5
abbrev sEv0Settle : PhaseCode := 5#5
abbrev sEv0Confirm : PhaseCode := 6#5
abbrev sEv0Waitrel : PhaseCode := 7#5
abbrev sEv0Relsettle : PhaseCode := 8#5
abbrev sEv1Check : PhaseCode := 9#5
abbrev sEv1Settle : PhaseCode := 10#5
abbrev sEv1Confirm : PhaseCode := 11#5
abbrev sEv1Waitrel : PhaseCode := 12#5
abbrev sEv1Relsettle : PhaseCode := 13#5
abbrev sEv2Check : PhaseCode := 14#5
abbrev sEv2Settle : PhaseCode := 15#5
abbrev sEv2Confirm : PhaseCode := 16#5
abbrev sEv2Waitrel : PhaseCode := 17#5
abbrev sEv2Relsettle : PhaseCode := 18#5
abbrev sRender : PhaseCode := 19#5
abbrev sExec0 : PhaseCode := 20#5
abbrev sExec1 : PhaseCode := 21#5
abbrev sExec2 : PhaseCode := 22#5
abbrev sExec3 : PhaseCode := 23#5
abbrev sExec4 : PhaseCode := 24#5
abbrev sPace : PhaseCode := 25#5

/-! ### The command-port operations (R281 to R290)

Each is performed completely inside the step that issues it (R14, R280) and none can fail. -/

/-- WDTREFRESH: one pulse on the refresh strobe, no register changes (R281). -/
def portWdtrefresh (s : State) : State := s.issue .wdtrefresh

/-- SAMPLE `ch`: returns ADCVAL[ch], no register changes (R282). -/
def portSample (ch : Fin 3) (s : State) : Sample × State :=
  (s.adc ch, s.issue (.sample ch (s.adc ch)))

/-- BTNSTATE `id`: returns 1, asserted, exactly when BTN[id] = 0; nothing changes (R283). -/
def portBtnstate (id : Fin 3) (s : State) : Bool × State :=
  (!s.btn id, s.issue (.btnstate id (!s.btn id)))

/-- SETHCMP `v`: `HCMP <- v`, at once, with no compare match (R284, R186). -/
def portSethcmp (v : Count) (s : State) : State := (s.setHcmp v).issue (.sethcmp v)

/-- RSTHTMR: `HTMR <- 0`, with no event (R285, R186). -/
def portRsthtmr (s : State) : State := (s.setHtmr 0#16).issue .rsthtmr

/-- ENHINT `b`: `b = 1` sets HIE alone; `b = 0` clears HIE, HEAT_OUT, IF[0] and IF[1] (R286). -/
def portEnhint (b : BitVec 1) (s : State) : State :=
  let s' :=
    if b = 1#1 then s.setHie true
    else (((s.setHie false).setHeatOut false).setLatch 0 false).setLatch 1 false
  s'.issue (.enhint b)

/-- SETHOUT `b`: `HEAT_OUT <- b` (R287). -/
def portSethout (b : BitVec 1) (s : State) : State := (s.setHeatOut (b == 1#1)).issue (.sethout b)

/-- SETCDUTY `v`: `CDUTY <- v`, neither clamped nor scaled (R288). -/
def portSetcduty (v : Sample) (s : State) : State := (s.setCduty v).issue (.setcduty v)

/-- ENCPWM `b`: `CPWMEN <- b`; CDUTY and CPWMCNT stay (R289). -/
def portEncpwm (b : BitVec 1) (s : State) : State := (s.setCpwmen (b == 1#1)).issue (.encpwm b)

/-- DISPLINE: the display receives the row and its text, no register changes (R290). The text is
`Config.displayText` of the registers recorded beside the row (log entry 6). -/
def portDispline (rowField : BitVec 2) (s : State) : State := s.issue (.displine rowField s.frame)

/-! ### Interrupts -/

/-- `IE[n]`: HIE for the two heater sources, 1 hardwired for the button sources (R38, R314). -/
def sourceEnabled (s : State) (n : Fin 5) : Bool :=
  match n with
  | 0 => s.hie
  | 1 => s.hie
  | 2 => true
  | 3 => true
  | 4 => true

/-- Source `n` asks for service: its latch is set and enabled (R318). -/
def requested (s : State) (n : Fin 5) : Bool := s.latch n && sourceEnabled s n

/-- The source the dispatcher serves: the lowest requested number (R317, R318). -/
def pendingSource (s : State) : Option SourceNumber :=
  if requested s 0 then some 0#3
  else if requested s 1 then some 1#3
  else if requested s 2 then some 2#3
  else if requested s 3 then some 3#3
  else if requested s 4 then some 4#3
  else none

/-- Taking an interrupt and returning from it, as one atomic step (R320, R322): entry saves nothing and
changes nothing, the handler's writes are `body`, its last write clears its latch (R315), and the
return is implicit. PHASE is neither read nor written. -/
def serveInterrupt (n : Fin 5) (body : State → State) (s : State) : State :=
  (body s).setLatch n false

end Sys2Proof.Machine
end

