-- ==== Sys2Proof/Machine/Operands.lean ====
section
/-! DEFINITION. Operand assembly: the index fields a command word carries, and the operands the
sequencer assembles from RAW[1]. -/

namespace Sys2Proof.Machine

/-- The channel or button an index field names; the field value 3 names none (R81, R114). -/
def indexOf (i : BitVec 2) : Option (Fin 3) :=
  match i.toNat with
  | 0 => some 0
  | 1 => some 1
  | 2 => some 2
  | _ => none

/-- The heater compare value of a control sample `r`: `(r * 64) mod 65536`, wrapping and never
saturating (R104, R228). The argument is a number so that the wrap of samples above 1023 is stated
too. -/
def heaterCompare (r : Nat) : Count := BitVec.ofNat 16 (r * 64)

/-- The SETHCMP operand of ACT_HEAT step 4 (R104, R222). -/
def sethcmpOperand (s : State) : Count := heaterCompare s.raw1.toNat

/-- The SETCDUTY operand of ACT_COOL step 4: RAW[1] unchanged (R105, R223). -/
def setcdutyOperand (s : State) : Sample := s.raw1

/-- The row number a DISPLINE field names: field value plus 1 (R103). -/
def rowNumber (rowField : BitVec 2) : Nat := rowField.toNat + 1

end Sys2Proof.Machine
end

