-- ==== Sys2Proof/Machine/Sensors.lean ====
section
/-! DEFINITION. The derived measurements and the hysteresis comparator: combinational functions of
the raw samples and HYS, with no state and no step of their own (R24, R160). -/

namespace Sys2Proof.Machine

/-- `voltage(r) = r * 5 / 1023`, in volts, exact (R161). -/
def voltage (r : Sample) : Rat := (r.toNat : Rat) * 5 / 1023

/-- SP, the setpoint, from RAW[0] (R162). -/
def setpoint (r : Sample) : Rat := voltage r / 5 * 100

/-- T, the temperature, from RAW[2]: not divided by 5, not clamped (R163, R168). -/
def temperature (r : Sample) : Rat := voltage r * 100

/-- HC, the control percentage, from RAW[1]; only the display reads it (R164). -/
def controlPercent (r : Sample) : Rat := voltage r / 5 * 100

/-- `W(h) = h`, the width of the hysteresis band (R165). -/
def bandWidth (h : BitVec 2) : Rat := (h.toNat : Rat)

/-- What the AutoCool comparator decides (R166). -/
inductive Decision where
  | cool
  | heat
  | idle
  deriving DecidableEq, Repr

/-- `AC(T, SP, h)` on exact rationals, both tests strict and in this order (R166). -/
def autoCool (t sp : Rat) (h : BitVec 2) : Decision :=
  if t - sp > 0 then .cool
  else if t < sp - bandWidth h then .heat
  else .idle

/-- The comparator on the registers, in integers only (R167). This is the form the machine evaluates;
that it agrees with `autoCool` is an obligation (log entry 10). -/
def autoCoolRaw (raw0 raw2 : Sample) (h : BitVec 2) : Decision :=
  if 5 * raw2.toNat > raw0.toNat then .cool
  else if 500 * raw2.toNat + 1023 * h.toNat < 100 * raw0.toNat then .heat
  else .idle

/-- The text of display row `row` for the registers a frame holds (R256). -/
def displayedText (row : Nat) (f : DisplayFrame) : String :=
  Config.displayText row f.mode f.hys (setpoint f.raw0) (temperature f.raw2) (controlPercent f.raw1)
    (f.flags.getLsbD 0) (f.flags.getLsbD 1)

end Sys2Proof.Machine
end

