-- ==== Sys2Proof/Machine/Flags.lean ====
section
/-! DEFINITION. The flags: the pair FLAGS each action writes. There are no arithmetic condition codes
(R28). -/

namespace Sys2Proof.Machine

/-- The four actions of an iteration (R221 to R224). -/
inductive Action where
  | off
  | heat
  | cool
  | idle
  deriving DecidableEq, Repr

/-- Step 0 of an action: the value of FLAGS, bit 0 HEATER_ON and bit 1 COOLER_ON (R26, R221 to R224).
The value 0b11 is never written. -/
def actionFlags (a : Action) : BitVec 2 :=
  match a with
  | .off => 0b00#2
  | .heat => 0b01#2
  | .cool => 0b10#2
  | .idle => 0b00#2

end Sys2Proof.Machine
end

