-- ==== Sys2Proof/Machine/Actions.lean ====
section
/-! DEFINITION. The selection of the action of an iteration, and the command word each step of an
action issues. -/

namespace Sys2Proof.Machine

/-- ACSEL: the action AutoCool selects (R225). -/
def acSelect (d : Decision) : Action :=
  match d with
  | .cool => .cool
  | .heat => .heat
  | .idle => .idle

/-- SEL, the action of this iteration, a function of MODE, RAW[0], RAW[2] and HYS (R226). -/
def select (s : State) : Action :=
  if s.mode = 0#2 then .off
  else if s.mode = 1#2 then .heat
  else if s.mode = 2#2 then .cool
  else acSelect (autoCoolRaw s.raw0 s.raw2 s.hys)

/-- Step 1 of an action (R221 to R224). -/
def actionStep1 (a : Action) (s : State) : State :=
  match a with
  | .off => portEnhint 0#1 s
  | .heat => portEncpwm 0#1 s
  | .cool => portSethout 0#1 s
  | .idle => portEnhint 0#1 s

/-- Step 2 of an action (R221 to R224). -/
def actionStep2 (a : Action) (s : State) : State :=
  match a with
  | .off => portEncpwm 0#1 s
  | .heat => portSetcduty 0#10 s
  | .cool => portEnhint 0#1 s
  | .idle => portEncpwm 0#1 s

/-- Step 3 of an action (R221 to R224). -/
def actionStep3 (a : Action) (s : State) : State :=
  match a with
  | .off => portSethout 0#1 s
  | .heat => portEnhint 1#1 s
  | .cool => portEncpwm 1#1 s
  | .idle => portSethout 0#1 s

/-- Step 4 of an action, from the RAW[1] of this iteration (R221 to R224). -/
def actionStep4 (a : Action) (s : State) : State :=
  match a with
  | .off => portSetcduty 0#10 s
  | .heat => portSethcmp (sethcmpOperand s) s
  | .cool => portSetcduty (setcdutyOperand s) s
  | .idle => portSetcduty 0#10 s

end Sys2Proof.Machine
end

