-- ==== Sys2Proof/Machine/Agents.lean ====
section
/-! DEFINITION. The steps without an encoding: HTICK, CTICK, ENV_BTN, ENV_ADC and RESET (R118). -/

namespace Sys2Proof.Machine

/-- HTICK: the timer counts up and wraps, and an overflow or a match of the new value sets its latch
only while HIE = 1 (R181 to R183). -/
def htick (s : State) : State :=
  let t := s.htmr + 1#16
  let s1 := s.setHtmr t
  let s2 := if t = 0#16 ∧ s.hie = true then s1.setLatch 0 true else s1
  if t = s.hcmp ∧ s.hie = true then s2.setLatch 1 true else s2

/-- CTICK: `CPWMCNT <- (CPWMCNT + 1) mod 1024`, whatever CPWMEN (R193). -/
def ctick (s : State) : State := s.setCpwmcnt (s.cpwmcnt + 1#10)

/-- The request source of button `k`: number 2 + k (R108). -/
def buttonSource (k : Fin 3) : Fin 5 :=
  match k with
  | 0 => 2
  | 1 => 3
  | 2 => 4

/-- ENV_BTN k v: a change of level in either direction sets IF[2 + k]; no change does nothing
(R131). -/
def envBtn (k : Fin 3) (v : Bool) (s : State) : State :=
  if s.btn k = v then s else (s.setBtn k v).setLatch (buttonSource k) true

/-- ENV_ADC k v: channel `k` takes value `v` (R39). -/
def envAdc (k : Fin 3) (v : Sample) (s : State) : State := s.setAdc k v

/-- RESET: every register takes its reset value and a pending request is discarded (R350). The analog
inputs, the order of steps and the step count are the environment's and stay (log entry 11). -/
def resetMachine (s : State) : State :=
  { State.reset with
    adc0 := s.adc0
    adc1 := s.adc1
    adc2 := s.adc2
    agenda := s.agenda
    clock := s.clock
    port := s.port
    cmd := s.cmd }

/-- The effect of a step without an encoding. -/
def takeStep (a : UnencodedStep) (s : State) : State :=
  match a with
  | .htick => htick s
  | .ctick => ctick s
  | .envBtn k v => envBtn k v s
  | .envAdc k v => envAdc k v s
  | .reset => resetMachine s

end Sys2Proof.Machine
end

