-- ==== Sys2Proof/Machine/CommandPort.lean ====
section
/-! DEFINITION. The meanings of the ten command words (R281 to R290). What SAMPLE and BTNSTATE return
is the result recorded in the port event. -/

namespace Sys2Proof.Machine

/-- WDTREFRESH (R281). -/
def execWdtrefresh (s : State) : Host.Outcome State Fault Refusal := .next (portWdtrefresh s)

/-- SAMPLE ch (R282); channel 3 is reserved (R114). -/
def execSample (ch : BitVec 2) (s : State) : Host.Outcome State Fault Refusal :=
  match indexOf ch with
  | some k => .next (portSample k s).2
  | none => .refused (.reservedIndex ch)

/-- BTNSTATE id (R283); button 3 is reserved (R114). -/
def execBtnstate (id : BitVec 2) (s : State) : Host.Outcome State Fault Refusal :=
  match indexOf id with
  | some k => .next (portBtnstate k s).2
  | none => .refused (.reservedIndex id)

/-- SETHCMP v (R284). -/
def execSethcmp (v : Count) (s : State) : Host.Outcome State Fault Refusal := .next (portSethcmp v s)

/-- RSTHTMR (R285). -/
def execRsthtmr (s : State) : Host.Outcome State Fault Refusal := .next (portRsthtmr s)

/-- ENHINT b (R286). -/
def execEnhint (b : BitVec 1) (s : State) : Host.Outcome State Fault Refusal := .next (portEnhint b s)

/-- SETHOUT b (R287). `SETHOUT 1` is defined although nothing issues it (U8). -/
def execSethout (b : BitVec 1) (s : State) : Host.Outcome State Fault Refusal := .next (portSethout b s)

/-- SETCDUTY v (R288). -/
def execSetcduty (v : Sample) (s : State) : Host.Outcome State Fault Refusal :=
  .next (portSetcduty v s)

/-- ENCPWM b (R289). -/
def execEncpwm (b : BitVec 1) (s : State) : Host.Outcome State Fault Refusal := .next (portEncpwm b s)

/-- DISPLINE row (R290). -/
def execDispline (rowField : BitVec 2) (s : State) : Host.Outcome State Fault Refusal :=
  .next (portDispline rowField s)

end Sys2Proof.Machine
end

