-- ==== Sys2Proof/Machine/Interrupts.lean ====
section
/-! DEFINITION. The five interrupt handlers (R184, R185, R133 to R135). A handler reads nothing (R320):
the precondition of its rule, that its request is the lowest set and enabled one, is the
dispatcher's (`pendingSource`), and the meaning is the handler's writes (log entry 8). -/

namespace Sys2Proof.Machine

/-- IRQ TMROVF: `HEAT_OUT <- 1; Port(RSTHTMR); IF[0] <- 0` (R184). -/
def execIrqTmrovf (s : State) : Host.Outcome State Fault Refusal :=
  .next (serveInterrupt 0 (fun s => portRsthtmr (s.setHeatOut true)) s)

/-- IRQ CMPMATCH: `HEAT_OUT <- 0; IF[1] <- 0` (R185). -/
def execIrqCmpmatch (s : State) : Host.Outcome State Fault Refusal :=
  .next (serveInterrupt 1 (fun s => s.setHeatOut false) s)

/-- IRQ BTN0EDGE: `PEND[0] <- 1; IF[2] <- 0` (R133). -/
def execIrqBtn0edge (s : State) : Host.Outcome State Fault Refusal :=
  .next (serveInterrupt 2 (fun s => s.setPend 0 true) s)

/-- IRQ BTN1EDGE: `PEND[1] <- 1; IF[3] <- 0` (R134). -/
def execIrqBtn1edge (s : State) : Host.Outcome State Fault Refusal :=
  .next (serveInterrupt 3 (fun s => s.setPend 1 true) s)

/-- IRQ BTN2EDGE: `PEND[2] <- 1; IF[4] <- 0` (R135). -/
def execIrqBtn2edge (s : State) : Host.Outcome State Fault Refusal :=
  .next (serveInterrupt 4 (fun s => s.setPend 2 true) s)

end Sys2Proof.Machine
end

