-- ==== Sys2Proof/Machine/Sequencer.lean ====
section
/-! DEFINITION. The shapes the sequencer's phases share, and the phases that are no event phases
(R241 to R244, R256 to R262). -/

namespace Sys2Proof.Machine

/-! ### Shared shapes -/

/-- `Port(WDTREFRESH); PHASE <- next`: the watchdog phase and, as DELAY n, the seven delay phases
(R244, R263). -/
def refreshThen (next : PhaseCode) (s : State) : State := (portWdtrefresh s).setPhase next

/-- `RAW[k] <- Port(SAMPLE, k); PHASE <- next` (R241 to R243). -/
def sampleThen (k : Fin 3) (next : PhaseCode) (s : State) : State :=
  ((portSample k s).2.setRaw k (portSample k s).1).setPhase next

/-- CHECK: the atomic test and clear of PEND[k] (R92, R136). -/
def checkEvent (k : Fin 3) (settle next : PhaseCode) (s : State) : State :=
  if s.pendBit k = true then (s.setPend k false).setPhase settle else s.setPhase next

/-- CONFIRM: re-sample the button; asserted performs the event's action (R136). -/
def confirmEvent (k : Fin 3) (action : State → State) (waitrel next : PhaseCode) (s : State) : State :=
  if (portBtnstate k s).1 = true then (action (portBtnstate k s).2).setPhase waitrel
  else (portBtnstate k s).2.setPhase next

/-- WAITREL: refresh, re-sample, repeat until released (R136). -/
def waitRelease (k : Fin 3) (waitrel relsettle : PhaseCode) (s : State) : State :=
  if (portBtnstate k (portWdtrefresh s)).1 = false then
    (portBtnstate k (portWdtrefresh s)).2.setPhase relsettle
  else (portBtnstate k (portWdtrefresh s)).2.setPhase waitrel

/-- advance Mode: `MODE <- (MODE + 1) mod 4` (R139, R210). -/
def advanceMode (s : State) : State := s.setMode (s.mode + 1#2)

/-- advance Hysteresis: `HYS <- (HYS + 1) mod 4` (R144). -/
def advanceHysteresis (s : State) : State := s.setHys (s.hys + 1#2)

/-- force Off: `MODE <- 0` (R149, R210). -/
def forceOff (s : State) : State := s.setMode 0#2

/-- The four display lines of one iteration, rows 1 to 4 in this order (R256). -/
def renderRows (s : State) : State :=
  portDispline 3#2 (portDispline 2#2 (portDispline 1#2 (portDispline 0#2 s)))

/-! ### The phases -/

/-- SEQ S_WDT (R244). -/
def execSeqSWdt (s : State) : Host.Outcome State Fault Refusal := .next (refreshThen sSamp0 s)

/-- SEQ S_SAMP0 (R241). -/
def execSeqSSamp0 (s : State) : Host.Outcome State Fault Refusal := .next (sampleThen 0 sSamp1 s)

/-- SEQ S_SAMP1 (R242). -/
def execSeqSSamp1 (s : State) : Host.Outcome State Fault Refusal := .next (sampleThen 1 sSamp2 s)

/-- SEQ S_SAMP2 (R243). -/
def execSeqSSamp2 (s : State) : Host.Outcome State Fault Refusal := .next (sampleThen 2 sEv0Check s)

/-- SEQ S_RENDER (R256). -/
def execSeqSRender (s : State) : Host.Outcome State Fault Refusal :=
  .next ((renderRows s).setPhase sExec0)

/-- SEQ S_EXEC0: step 0 of SEL, the flags (R257). -/
def execSeqSExec0 (s : State) : Host.Outcome State Fault Refusal :=
  .next ((s.setFlags (actionFlags (select s))).setPhase sExec1)

/-- SEQ S_EXEC1: step 1 of SEL (R258). -/
def execSeqSExec1 (s : State) : Host.Outcome State Fault Refusal :=
  .next ((actionStep1 (select s) s).setPhase sExec2)

/-- SEQ S_EXEC2: step 2 of SEL (R259). -/
def execSeqSExec2 (s : State) : Host.Outcome State Fault Refusal :=
  .next ((actionStep2 (select s) s).setPhase sExec3)

/-- SEQ S_EXEC3: step 3 of SEL (R260). -/
def execSeqSExec3 (s : State) : Host.Outcome State Fault Refusal :=
  .next ((actionStep3 (select s) s).setPhase sExec4)

/-- SEQ S_EXEC4: step 4 of SEL (R261). -/
def execSeqSExec4 (s : State) : Host.Outcome State Fault Refusal :=
  .next ((actionStep4 (select s) s).setPhase sPace)

/-- SEQ S_PACE: DELAY 50, and back to S_WDT (R262). -/
def execSeqSPace (s : State) : Host.Outcome State Fault Refusal := .next (refreshThen sWdt s)

end Sys2Proof.Machine
end

