-- ==== Sys2Proof/Machine/EventPhases.lean ====
section
/-! DEFINITION. The fifteen event phases (R137 to R151), five for each of the three events. -/

namespace Sys2Proof.Machine

/-! ### Event 0: mode-change -/

/-- SEQ S_EV0_CHECK (R137). -/
def execSeqSEv0Check (s : State) : Host.Outcome State Fault Refusal :=
  .next (checkEvent 0 sEv0Settle sEv1Check s)

/-- SEQ S_EV0_SETTLE: DELAY 30 (R138). -/
def execSeqSEv0Settle (s : State) : Host.Outcome State Fault Refusal :=
  .next (refreshThen sEv0Confirm s)

/-- SEQ S_EV0_CONFIRM (R139). -/
def execSeqSEv0Confirm (s : State) : Host.Outcome State Fault Refusal :=
  .next (confirmEvent 0 advanceMode sEv0Waitrel sEv1Check s)

/-- SEQ S_EV0_WAITREL (R140). -/
def execSeqSEv0Waitrel (s : State) : Host.Outcome State Fault Refusal :=
  .next (waitRelease 0 sEv0Waitrel sEv0Relsettle s)

/-- SEQ S_EV0_RELSETTLE: DELAY 50 (R141). -/
def execSeqSEv0Relsettle (s : State) : Host.Outcome State Fault Refusal :=
  .next (refreshThen sEv1Check s)

/-! ### Event 1: hysteresis-change -/

/-- SEQ S_EV1_CHECK (R142). -/
def execSeqSEv1Check (s : State) : Host.Outcome State Fault Refusal :=
  .next (checkEvent 1 sEv1Settle sEv2Check s)

/-- SEQ S_EV1_SETTLE: DELAY 30 (R143). -/
def execSeqSEv1Settle (s : State) : Host.Outcome State Fault Refusal :=
  .next (refreshThen sEv1Confirm s)

/-- SEQ S_EV1_CONFIRM (R144). -/
def execSeqSEv1Confirm (s : State) : Host.Outcome State Fault Refusal :=
  .next (confirmEvent 1 advanceHysteresis sEv1Waitrel sEv2Check s)

/-- SEQ S_EV1_WAITREL (R145). -/
def execSeqSEv1Waitrel (s : State) : Host.Outcome State Fault Refusal :=
  .next (waitRelease 1 sEv1Waitrel sEv1Relsettle s)

/-- SEQ S_EV1_RELSETTLE: DELAY 50 (R146). -/
def execSeqSEv1Relsettle (s : State) : Host.Outcome State Fault Refusal :=
  .next (refreshThen sEv2Check s)

/-! ### Event 2: off-request -/

/-- SEQ S_EV2_CHECK (R147). -/
def execSeqSEv2Check (s : State) : Host.Outcome State Fault Refusal :=
  .next (checkEvent 2 sEv2Settle sRender s)

/-- SEQ S_EV2_SETTLE: DELAY 30 (R148). -/
def execSeqSEv2Settle (s : State) : Host.Outcome State Fault Refusal :=
  .next (refreshThen sEv2Confirm s)

/-- SEQ S_EV2_CONFIRM (R149). -/
def execSeqSEv2Confirm (s : State) : Host.Outcome State Fault Refusal :=
  .next (confirmEvent 2 forceOff sEv2Waitrel sRender s)

/-- SEQ S_EV2_WAITREL (R150). -/
def execSeqSEv2Waitrel (s : State) : Host.Outcome State Fault Refusal :=
  .next (waitRelease 2 sEv2Waitrel sEv2Relsettle s)

/-- SEQ S_EV2_RELSETTLE: DELAY 50 (R151). -/
def execSeqSEv2Relsettle (s : State) : Host.Outcome State Fault Refusal :=
  .next (refreshThen sRender s)

end Sys2Proof.Machine
end

