-- ==== Sys2Proof/Machine/Arbiter.lean ====
section
/-! DEFINITION. Which step comes next, what it is run from, and where a word is placed so that the next
step runs it. -/

namespace Sys2Proof.Machine

/-- A step of the machine: the operation of a word, or a step without an encoding. -/
inductive Turn where
  | run (w : Word)
  | take (a : UnencodedStep)
  deriving DecidableEq, Repr

/-- The agent whose turn it would be: the head of the agenda, and where the agenda is empty the free
schedule (R16, R132; log entry 2). -/
def offer (s : State) : AgentStep :=
  match s.agenda with
  | a :: _ => a
  | [] => Config.schedule s.clock

/-- The next step. A command word presented from outside is performed alone (log entry 1). Otherwise
RESET comes at any point (R350), a pending enabled request is served before any other agent steps
(R318), the sequencer executes the phase PHASE holds (R25), and the counters and the environment step
when it is their turn. -/
def nextTurn (s : State) : Turn :=
  match s.cmd with
  | some w => .run (.cw w)
  | none =>
    match offer s with
    | .other .reset => .take .reset
    | .other a =>
      match pendingSource s with
      | some n => .run (.ev n)
      | none => .take a
    | .seq =>
      match pendingSource s with
      | some n => .run (.ev n)
      | none => .run (.ph s.phase)

/-- The port is quiet and the step count advances (log entries 2 and 5). -/
def freshTurn (s : State) : State := { s with port := [], clock := s.clock + 1 }

/-- The agenda without the turn that is being taken. -/
def dropOffer (s : State) : State := { s with agenda := s.agenda.tail }

/-- The state a turn is run from. A handler is forced and takes no turn from the agenda (log entry
3). -/
def beginTurn (t : Turn) (s : State) : State :=
  match t with
  | .run (.cw _) => { freshTurn s with cmd := none }
  | .run (.ev _) => freshTurn s
  | .run (.ph _) => dropOffer (freshTurn s)
  | .take _ => dropOffer (freshTurn s)

/-- `w` placed where the next step takes its operation from: a command word in the slot `cmd`, a phase
code in PHASE with no request latched and the sequencer's turn next, a source number as the one
request latched, with HIE for the two heater sources. A reserved source number has no latch and is
placed as a reserved command word. -/
def placeWord (w : Word) (s : State) : State :=
  match w with
  | .cw w => { s with cmd := some w }
  | .ev n =>
    if n.toNat < 5 then
      { s with
        cmd := none
        agenda := .seq :: s.agenda
        ifr := BitVec.twoPow 5 n.toNat
        hcon := if n.toNat < 2 then setBit s.hcon 0 true else s.hcon }
    else { s with cmd := some 0#20 }
  | .ph p => { s with cmd := none, agenda := .seq :: s.agenda, ifr := 0#5, phase := p }

/-- A word of the opcode table placed for the next step; what is no word of any format is placed as a
reserved command word, which the next step refuses. -/
def placeTableWord (nbits w : Nat) (s : State) : State :=
  match tableWord nbits w with
  | some x => placeWord x s
  | none => placeWord (.cw 0#20) s

end Sys2Proof.Machine
end

