-- ==== Sys2Proof/Machine/Dispatch.lean ====
section
/-! DEFINITION. One arm per constructor of Instr, each one direct call of its meaning. -/

namespace Sys2Proof.Machine

def exec (i : Instr) (s : State) : Host.Outcome State Fault Refusal :=
  match i with
  | .wdtrefresh => Sys2Proof.Machine.execWdtrefresh s
  | .sample ch => Sys2Proof.Machine.execSample ch s
  | .btnstate id => Sys2Proof.Machine.execBtnstate id s
  | .sethcmp v => Sys2Proof.Machine.execSethcmp v s
  | .rsthtmr => Sys2Proof.Machine.execRsthtmr s
  | .enhint b => Sys2Proof.Machine.execEnhint b s
  | .sethout b => Sys2Proof.Machine.execSethout b s
  | .setcduty v => Sys2Proof.Machine.execSetcduty v s
  | .encpwm b => Sys2Proof.Machine.execEncpwm b s
  | .displine rowField => Sys2Proof.Machine.execDispline rowField s
  | .irqTmrovf => Sys2Proof.Machine.execIrqTmrovf s
  | .irqCmpmatch => Sys2Proof.Machine.execIrqCmpmatch s
  | .irqBtn0edge => Sys2Proof.Machine.execIrqBtn0edge s
  | .irqBtn1edge => Sys2Proof.Machine.execIrqBtn1edge s
  | .irqBtn2edge => Sys2Proof.Machine.execIrqBtn2edge s
  | .seqSWdt => Sys2Proof.Machine.execSeqSWdt s
  | .seqSSamp0 => Sys2Proof.Machine.execSeqSSamp0 s
  | .seqSSamp1 => Sys2Proof.Machine.execSeqSSamp1 s
  | .seqSSamp2 => Sys2Proof.Machine.execSeqSSamp2 s
  | .seqSEv0Check => Sys2Proof.Machine.execSeqSEv0Check s
  | .seqSEv0Settle => Sys2Proof.Machine.execSeqSEv0Settle s
  | .seqSEv0Confirm => Sys2Proof.Machine.execSeqSEv0Confirm s
  | .seqSEv0Waitrel => Sys2Proof.Machine.execSeqSEv0Waitrel s
  | .seqSEv0Relsettle => Sys2Proof.Machine.execSeqSEv0Relsettle s
  | .seqSEv1Check => Sys2Proof.Machine.execSeqSEv1Check s
  | .seqSEv1Settle => Sys2Proof.Machine.execSeqSEv1Settle s
  | .seqSEv1Confirm => Sys2Proof.Machine.execSeqSEv1Confirm s
  | .seqSEv1Waitrel => Sys2Proof.Machine.execSeqSEv1Waitrel s
  | .seqSEv1Relsettle => Sys2Proof.Machine.execSeqSEv1Relsettle s
  | .seqSEv2Check => Sys2Proof.Machine.execSeqSEv2Check s
  | .seqSEv2Settle => Sys2Proof.Machine.execSeqSEv2Settle s
  | .seqSEv2Confirm => Sys2Proof.Machine.execSeqSEv2Confirm s
  | .seqSEv2Waitrel => Sys2Proof.Machine.execSeqSEv2Waitrel s
  | .seqSEv2Relsettle => Sys2Proof.Machine.execSeqSEv2Relsettle s
  | .seqSRender => Sys2Proof.Machine.execSeqSRender s
  | .seqSExec0 => Sys2Proof.Machine.execSeqSExec0 s
  | .seqSExec1 => Sys2Proof.Machine.execSeqSExec1 s
  | .seqSExec2 => Sys2Proof.Machine.execSeqSExec2 s
  | .seqSExec3 => Sys2Proof.Machine.execSeqSExec3 s
  | .seqSExec4 => Sys2Proof.Machine.execSeqSExec4 s
  | .seqSPace => Sys2Proof.Machine.execSeqSPace s

end Sys2Proof.Machine
end

