-- ==== Sys2Proof/Machine/Step.lean ====
section
/-! DEFINITION. One step of the machine, and the placing of a word for the next step. -/

namespace Sys2Proof.Machine

/-- One atomic step of one agent (R16, R89): the word of the turn is decoded and executed, or the step
without an encoding is taken. A reserved word is refused (R112, R113). -/
def step (s : State) : Host.Outcome State Fault Refusal :=
  match nextTurn s with
  | .run w =>
    match decode w with
    | .ok i => exec i (beginTurn (.run w) s)
    | .error r => .refused (.reservedWord r)
  | .take a => .next (takeStep a (beginTurn (.take a) s))

/-- `s` with a word of the opcode table stored where the next step takes its operation from. -/
def State.withFetchWord (s : State) (nbits w : Nat) : State := placeTableWord nbits w s

end Sys2Proof.Machine
end

