-- ==== Sys2Proof/Machine/Outputs.lean ====
section
/-! DEFINITION. What the outside sees: the register table, the command words a step issues, the
watchdog strobe and the display stream (R40 to R42). -/

namespace Sys2Proof.Machine

/-- The sixteen registers of R42, numbered 0 to 15 for identification only (R41). -/
inductive Reg where
  | mode | hys | raw0 | raw1 | raw2 | flags | pend | phase
  | htmr | hcmp | hcon | cduty | ccon | cpwmcnt | btnr | ifr
  deriving DecidableEq, Repr

/-- The register's number, a label and not an address (R41, R42). -/
def Reg.number (r : Reg) : Nat :=
  match r with
  | .mode => 0 | .hys => 1 | .raw0 => 2 | .raw1 => 3 | .raw2 => 4 | .flags => 5 | .pend => 6 | .phase => 7
  | .htmr => 8 | .hcmp => 9 | .hcon => 10 | .cduty => 11 | .ccon => 12 | .cpwmcnt => 13 | .btnr => 14
  | .ifr => 15

/-- The register's width in bits (R42). -/
def Reg.width (r : Reg) : Nat :=
  match r with
  | .mode => 2 | .hys => 2 | .raw0 => 10 | .raw1 => 10 | .raw2 => 10 | .flags => 2 | .pend => 3 | .phase => 5
  | .htmr => 16 | .hcmp => 16 | .hcon => 2 | .cduty => 10 | .ccon => 1 | .cpwmcnt => 10 | .btnr => 3
  | .ifr => 5

/-- The register's value as an unsigned number (R12). -/
def Reg.read (r : Reg) (s : State) : Nat :=
  match r with
  | .mode => s.mode.toNat
  | .hys => s.hys.toNat
  | .raw0 => s.raw0.toNat
  | .raw1 => s.raw1.toNat
  | .raw2 => s.raw2.toNat
  | .flags => s.flags.toNat
  | .pend => s.pend.toNat
  | .phase => s.phase.toNat
  | .htmr => s.htmr.toNat
  | .hcmp => s.hcmp.toNat
  | .hcon => s.hcon.toNat
  | .cduty => s.cduty.toNat
  | .ccon => s.ccon.toNat
  | .cpwmcnt => s.cpwmcnt.toNat
  | .btnr => s.btnr.toNat
  | .ifr => s.ifr.toNat

/-- The field value of an index (R103). -/
def indexField (k : Fin 3) : BitVec 2 := BitVec.ofNat 2 k.val

/-- The operation of the opcode table that a port event is one of. -/
def PortEvent.instr (e : PortEvent) : Instr :=
  match e with
  | .wdtrefresh => .wdtrefresh
  | .sample ch _ => .sample (indexField ch)
  | .btnstate id _ => .btnstate (indexField id)
  | .sethcmp v => .sethcmp v
  | .rsthtmr => .rsthtmr
  | .enhint b => .enhint b
  | .sethout b => .sethout b
  | .setcduty v => .setcduty v
  | .encpwm b => .encpwm b
  | .displine row _ => .displine row

/-- The words of the operations the last step issued, in order (R116). -/
def issuedWords (s : State) : List Word := s.port.map (fun e => encode e.instr)

/-- The pulses on the watchdog refresh strobe in the last step (R40, R281). -/
def watchdogStrobes (s : State) : Nat := s.port.count .wdtrefresh

/-- The row and text a port event sends to the display, if it is a display line (R290). -/
def PortEvent.display? (e : PortEvent) : Option (Nat × String) :=
  match e with
  | .displine row f => some (rowNumber row, displayedText (rowNumber row) f)
  | .wdtrefresh => none
  | .sample _ _ => none
  | .btnstate _ _ => none
  | .sethcmp _ => none
  | .rsthtmr => none
  | .enhint _ => none
  | .sethout _ => none
  | .setcduty _ => none
  | .encpwm _ => none

/-- The rows and texts the last step sent to the display (R40, R256). -/
def displayStream (s : State) : List (Nat × String) := s.port.filterMap PortEvent.display?

end Sys2Proof.Machine
end

