-- ==== Sys2Proof/Safety.lean ====
section
/-! DEFINITION. What counts as a safe state, which registers each step may write, and how far the next
watchdog refresh can be: the terms the statements use. -/

namespace Sys2Proof.Machine

/-! ### The invariant of R43 and R229 -/

/-- PHASE is in 0 to 25 (R25, R43). -/
abbrev LegalPhase (s : State) : Prop := s.phase.toNat ≤ 25

/-- FLAGS is not 0b11 (R43). -/
abbrev LegalFlags (s : State) : Prop := s.flags ≠ 0b11#2

/-- HIE = 0 implies HEAT_OUT = 0 (R43). -/
abbrev HeaterLowWhenDisabled (s : State) : Prop := s.hie = false → s.heatOut = false

/-- IF[0] and IF[1] are set only while HIE = 1 (R38). -/
abbrev NoStaleHeaterRequest (s : State) : Prop :=
  s.hie = false → s.latch 0 = false ∧ s.latch 1 = false

/-- HIE = 1 and CPWMEN = 1 never hold together (R229). -/
abbrev DrivesExclusive (s : State) : Prop := ¬(s.hie = true ∧ s.cpwmen = true)

/-- What R229's argument uses between the steps of an action: ACT_HEAT has cleared CPWMEN after its
step 1, ACT_COOL has cleared HIE after its step 2. -/
abbrev ShutOffFirst (s : State) : Prop :=
  (select s = .heat → s.phase = sExec2 ∨ s.phase = sExec3 → s.cpwmen = false) ∧
  (select s = .cool → s.phase = sExec3 → s.hie = false)

/-- The invariant of the machine: R43 and R229, with no command word presented from outside. -/
def SafeState (s : State) : Prop :=
  s.cmd = none ∧ LegalPhase s ∧ LegalFlags s ∧ HeaterLowWhenDisabled s ∧ NoStaleHeaterRequest s ∧
    DrivesExclusive s ∧ ShutOffFirst s

/-! ### Write ownership (R326) -/

/-- The registers a phase writes besides PHASE. -/
def phaseWrites (p : PhaseCode) : List Reg :=
  match p.toNat with
  | 1 => [.raw0]
  | 2 => [.raw1]
  | 3 => [.raw2]
  | 4 => [.pend]
  | 6 => [.mode]
  | 9 => [.pend]
  | 11 => [.hys]
  | 14 => [.pend]
  | 16 => [.mode]
  | 20 => [.flags]
  | 21 => [.hcon, .ifr, .ccon]
  | 22 => [.hcon, .ifr, .ccon, .cduty]
  | 23 => [.hcon, .ccon]
  | 24 => [.cduty, .hcmp]
  | _ => []

/-- The registers a handler may write (R320). -/
def handlerWrites (n : SourceNumber) : List Reg :=
  match n.toNat with
  | 0 => [.hcon, .htmr, .ifr]
  | 1 => [.hcon, .ifr]
  | _ => [.pend, .ifr]

/-- The registers a step may write: the writers of R326, read by step. A command word alone writes at
most the registers R280 names. -/
def mayWrite (t : Turn) : List Reg :=
  match t with
  | .run (.cw _) => [.hcmp, .htmr, .hcon, .ifr, .cduty, .ccon]
  | .run (.ev n) => handlerWrites n
  | .run (.ph p) => .phase :: phaseWrites p
  | .take .htick => [.htmr, .ifr]
  | .take .ctick => [.cpwmcnt]
  | .take (.envBtn _ _) => [.btnr, .ifr]
  | .take (.envAdc _ _) => []
  | .take .reset =>
    [.mode, .hys, .raw0, .raw1, .raw2, .flags, .pend, .phase, .htmr, .hcmp, .hcon, .cduty, .ccon,
      .cpwmcnt, .btnr, .ifr]

/-! ### The next watchdog refresh (R330) -/

/-- How many SEQ steps there can be until one refreshes the watchdog, that one counted: the longest
run without a refresh is 12 steps, the phases 1, 2, 3, 4, 9, 14 and 19 to 24 (R330). -/
def refreshRank (p : PhaseCode) : Nat :=
  match p.toNat with
  | 1 => 13
  | 2 => 12
  | 3 => 11
  | 4 => 10
  | 6 => 10
  | 9 => 9
  | 11 => 9
  | 14 => 8
  | 16 => 8
  | 19 => 7
  | 20 => 6
  | 21 => 5
  | 22 => 4
  | 23 => 3
  | 24 => 2
  | _ => 1

/-! ### The successor of a phase (R265) -/

/-- NEXT(k): the phase after the processing of event `k`. -/
def nextEvent (k : Fin 3) : PhaseCode :=
  match k with
  | 0 => sEv1Check
  | 1 => sEv2Check
  | 2 => sRender

/-- The code of the first of the five phases of event `k`: 4 + 5k (R136). -/
def eventBase (k : Fin 3) : Nat := 4 + 5 * k.val

end Sys2Proof.Machine
end

