-- ==== Sys2Proof/Certificates/Slice0/Obligations.lean ====
section
/-! DEFINITION. The statements for the provers. -/

open Sys2Proof Sys2Proof.Machine

/-- Decoding the word of any well-formed operation gives that operation back. For every operation i of the three formats, with every operand the encoding admits, decode (encode i) is i. (derived: 30_encoding.md sections 1 to 4) -/
def Obligations.DecodeOfEncodeIsIdentity : Prop :=
  ∀ i : Instr, i.wellFormed = true → decode (encode i) = .ok i

/-- Every word that decodes is the word of the operation it decodes to. If a word of any format decodes to i, then i is well-formed and encode i is that word: each operation has one word and no bit of a word is ignored. (derived: 30_encoding.md sections 1 to 4) -/
def Obligations.EncodeOfDecodeIsIdentity : Prop :=
  ∀ (w : Word) (i : Instr), decode w = .ok i → i.wellFormed = true ∧ encode i = w

/-- Words written out from the opcode, source and phase maps decode to their operations. The words 0x10000, 0x20002, 0x30001, 0x41900, 0x50000, 0x60001, 0x70000, 0x80064, 0x90001, 0xA0003, source 1 and phase 7 decode to WDTREFRESH, SAMPLE 2, BTNSTATE 1, SETHCMP 6400, RSTHTMR, ENHINT 1, SETHOUT 0, SETCDUTY 100, ENCPWM 1, DISPLINE 4, IRQ CMPMATCH and SEQ S_EV0_WAITREL. (derived: 30_encoding.md sections 1 to 4, 45_command_port.md sections 2 to 4) -/
def Obligations.TableWordsDecode : Prop :=
  decode (.cw 0x10000#20) = .ok .wdtrefresh ∧ decode (.cw 0x20002#20) = .ok (.sample 2#2) ∧
  decode (.cw 0x30001#20) = .ok (.btnstate 1#2) ∧ decode (.cw 0x41900#20) = .ok (.sethcmp 6400#16) ∧
  decode (.cw 0x50000#20) = .ok .rsthtmr ∧ decode (.cw 0x60001#20) = .ok (.enhint 1#1) ∧
  decode (.cw 0x70000#20) = .ok (.sethout 0#1) ∧ decode (.cw 0x80064#20) = .ok (.setcduty 100#10) ∧
  decode (.cw 0x90001#20) = .ok (.encpwm 1#1) ∧ decode (.cw 0xA0003#20) = .ok (.displine 3#2) ∧
  decode (.ev 1#3) = .ok .irqCmpmatch ∧ decode (.ph 7#5) = .ok .seqSEv0Waitrel

/-- A word that the match and mask of a row select decodes to an operation of that row, index 3 apart. If the match and mask of the row of an operation select a word, the word decodes to an operation of the same row, unless it is SAMPLE or BTNSTATE with the reserved index 3; and no word is selected by two different rows. (derived: 30_encoding.md section 1) -/
def Obligations.SelectedRowIsTheOneDecoded : Prop :=
  ∀ (i : Instr) (w : Word), (opcodeRow i).selects w = true →
  ((∃ j, decode w = .ok j ∧ opcodeRow j = opcodeRow i) ∨ w = .cw 0x20003#20 ∨ w = .cw 0x30003#20) ∧
  ∀ j : Instr, (opcodeRow j).selects w = true → opcodeRow j = opcodeRow i

/-- Reserved command words are refused. A command word whose opcode is 0x0 or 0xB to 0xF is refused as a reserved opcode, and a word with the opcode of a row but a non-zero unused operand bit is refused for its operand bits. The model's own clauses: a reserved word presented from outside makes the step refuse, by the slot of log entry 1 (DESIGN CHOICE) and the named refusal of log entry 9 (DEDUCED); and every operation in the port record of log entry 5 (DESIGN CHOICE) has a word that decodes to it. (derived: 30_encoding.md section 1, 30_encoding.md section 6) -/
def Obligations.ReservedCommandWordsRefused : Prop :=
  (∀ e : PortEvent, decode (encode e.instr) = .ok e.instr) ∧
  ∀ w : CmdWord,
  (w.toNat / 65536 = 0 ∨ 11 ≤ w.toNat / 65536 →
    decode (.cw w) = .error (.opcode (w.extractLsb' 16 4))) ∧
  (∀ (i : Instr) (mask value : CmdWord), opcodeRow i = .cw mask value →
    w.toNat / 65536 = value.toNat / 65536 → w &&& mask ≠ value →
      decode (.cw w) = .error (.operandBits (w.extractLsb' 0 16))) ∧
  (∀ (s : State) (r : Reserved), s.cmd = some w → decode (.cw w) = .error r →
    step s = .refused (.reservedWord r))

/-- Phase codes 26 to 31, source numbers 5 to 7, channel 3 and button 3 are refused; every other code is admitted. The decoder refuses phase codes 26 to 31 and source numbers 5 to 7 and decodes the others, and a sequencer step from a state whose PHASE holds a reserved code is refused; PHASE starts legal and no step of any agent takes it from a legal code to a reserved one; the words and the terms SAMPLE 3 and BTNSTATE 3 are refused and no operation recorded on the port is one of them; the dispatcher serves no source above 4; all four field values of DISPLINE decode. (stated: R113, R114) -/
def Obligations.ReservedPhasesAndIndicesRefused : Prop :=
  (∀ p : PhaseCode, 26 ≤ p.toNat → decode (.ph p) = .error (.phase p)) ∧
  (∀ p : PhaseCode, p.toNat ≤ 25 → ∃ i, decode (.ph p) = .ok i) ∧
  (∀ s : State, s.cmd = none → offer s = .seq → pendingSource s = none → 26 ≤ s.phase.toNat →
    step s = .refused (.reservedWord (.phase s.phase))) ∧
  State.reset.phase.toNat ≤ 25 ∧
  (∀ s t : State, s.phase.toNat ≤ 25 → step s = .next t → t.phase.toNat ≤ 25) ∧
  (∀ (s : State) (n : SourceNumber), pendingSource s = some n → n.toNat ≤ 4) ∧
  (∀ e : PortEvent, e.instr ≠ .sample 3#2 ∧ e.instr ≠ .btnstate 3#2) ∧
  (∀ n : SourceNumber, 5 ≤ n.toNat → decode (.ev n) = .error (.source n)) ∧
  (∀ n : SourceNumber, n.toNat ≤ 4 → ∃ i, decode (.ev n) = .ok i) ∧
  decode (.cw 0x20003#20) = .error (.index 3#2) ∧ decode (.cw 0x30003#20) = .error (.index 3#2) ∧
  (∀ s : State, exec (.sample 3#2) s = .refused (.reservedIndex 3#2) ∧
    exec (.btnstate 3#2) s = .refused (.reservedIndex 3#2)) ∧
  (∀ r : BitVec 2, decode (.cw (0xA0000#20 ||| r.setWidth 20)) = .ok (.displine r))

/-- A step runs the decoded operation of its word, and what the model adds around it. The model's own conventions (log entries 1, 2, 3, 5): the port record is emptied and the step count advances; a presented command word is consumed and runs alone; a handler takes no turn from the agenda; a phase takes one. With these, step is exec of the operation decoded from the presented command word, from the number of the served source, or from PHASE. (derived: 00_scope.md section 4, 60_exceptions.md section 3) -/
def Obligations.StepRunsTheDecodedWord : Prop :=
  ∀ (s : State) (i : Instr),
  (∀ w : CmdWord, s.cmd = some w → decode (.cw w) = .ok i →
    step s = exec i { s with cmd := none, port := [], clock := s.clock + 1 }) ∧
  (∀ n : SourceNumber, s.cmd = none → offer s ≠ .other .reset → pendingSource s = some n →
    decode (.ev n) = .ok i → step s = exec i { s with port := [], clock := s.clock + 1 }) ∧
  (s.cmd = none → offer s = .seq → pendingSource s = none → decode (.ph s.phase) = .ok i →
    step s = exec i { s with port := [], clock := s.clock + 1, agenda := s.agenda.tail })

/-- A word of the opcode table placed for the next step is the operation the next step runs. The model's interface (log entries 1, 2, 7): if decodeTableWord reads i, the next step of the state with that word placed is exec of i from a state with the same sixteen registers; if it reads nothing, the next step refuses a reserved word. (derived: 30_encoding.md section 1) -/
def Obligations.PlacedWordIsRunNext : Prop :=
  ∀ (s : State) (nbits w : Nat),
  (∀ i : Instr, decodeTableWord nbits w = some i →
    ∃ s' : State, step (s.withFetchWord nbits w) = exec i s' ∧
      ∀ r : Reg, r.read s' = r.read (s.withFetchWord nbits w)) ∧
  (decodeTableWord nbits w = none → ∃ r, step (s.withFetchWord nbits w) = .refused (.reservedWord r))

/-- RESET, where no command word is presented, gives every register its reset value. State.reset holds 0 in every register but BTNR, which is 0b111; and whenever the environment asserts RESET and no command word is presented (log entry 1), also with a request latch set, the step answers next with the registers of State.reset. That it keeps the environment inputs, the rest of the agenda and the advanced step count is the model's own (log entry 11, DEDUCED). (derived: 70_reset_and_hazards.md section 1) -/
def Obligations.ResetGivesEveryRegisterItsValue : Prop :=
  (∀ r : Reg, r.read State.reset = if r = .btnr then 7 else 0) ∧
  (∀ s : State, s.cmd = none → offer s = .other .reset →
    step s = .next { State.reset with
      adc0 := s.adc0, adc1 := s.adc1, adc2 := s.adc2, agenda := s.agenda.tail, clock := s.clock + 1 })

/-- The first sequencer step after reset executes S_WDT. From State.reset, with the sequencer next in the order of steps, the step refreshes the watchdog and goes to S_SAMP0, and changes no other register. (derived: 70_reset_and_hazards.md section 2) -/
def Obligations.FirstPhaseAfterResetIsTheWatchdogRefresh : Prop :=
  ∀ rest : List AgentStep,
  step { State.reset with agenda := .seq :: rest } =
    .next { State.reset with agenda := rest, clock := 1, port := [.wdtrefresh], phase := 1#5 }

/-- WDTREFRESH and DISPLINE complete and change no register. exec answers next for both on every state; the state after differs from the state before only in the port record, which gains the refresh strobe, or the row with the registers its text is made of. (stated: R281, R290) -/
def Obligations.WdtrefreshAndDisplineChangeNoRegister : Prop :=
  ∀ s : State,
  exec .wdtrefresh s = .next { s with port := s.port ++ [.wdtrefresh] } ∧
  ∀ r : BitVec 2, exec (.displine r) s = .next { s with
    port := s.port ++ [.displine r ⟨s.mode, s.hys, s.raw0, s.raw1, s.raw2, s.flags⟩] }

/-- SAMPLE ch returns ADCVAL[ch] and changes no register; channel 3 is refused. On every state exec of SAMPLE 0, 1, 2 answers next, the value returned on the port is the analog input of that channel, and nothing else changes. (stated: R282) -/
def Obligations.SampleReturnsTheAnalogInput : Prop :=
  ∀ s : State,
  exec (.sample 0#2) s = .next { s with port := s.port ++ [.sample 0 s.adc0] } ∧
  exec (.sample 1#2) s = .next { s with port := s.port ++ [.sample 1 s.adc1] } ∧
  exec (.sample 2#2) s = .next { s with port := s.port ++ [.sample 2 s.adc2] } ∧
  exec (.sample 3#2) s = .refused (.reservedIndex 3#2)

/-- BTNSTATE id returns 1 exactly when BTN[id] = 0 and changes no register; button 3 is refused. On every state exec of BTNSTATE 0, 1, 2 answers next, the bit returned on the port is the complement of the level, and nothing else changes, in particular no latch and no pending flag. (stated: R283) -/
def Obligations.BtnstateReturnsOneForAsserted : Prop :=
  ∀ s : State,
  exec (.btnstate 0#2) s = .next { s with port := s.port ++ [.btnstate 0 (decide (s.btnr.getLsbD 0 = false))] } ∧
  exec (.btnstate 1#2) s = .next { s with port := s.port ++ [.btnstate 1 (decide (s.btnr.getLsbD 1 = false))] } ∧
  exec (.btnstate 2#2) s = .next { s with port := s.port ++ [.btnstate 2 (decide (s.btnr.getLsbD 2 = false))] } ∧
  exec (.btnstate 3#2) s = .refused (.reservedIndex 3#2)

/-- SETHCMP v loads HCMP with v, RSTHTMR writes HTMR with 0, and neither touches anything else. On every state exec of both answers next: HCMP = v for every 16-bit v, also when v equals HTMR, and HTMR = 0; HIE, HEAT_OUT, the latches and every other register are untouched, so neither causes an event. (stated: R284, R285) -/
def Obligations.SethcmpAndRsthtmrWriteTheirRegisterAlone : Prop :=
  ∀ s : State,
  (∀ v : Count, exec (.sethcmp v) s = .next { s with hcmp := v, port := s.port ++ [.sethcmp v] }) ∧
  exec .rsthtmr s = .next { s with htmr := 0#16, port := s.port ++ [.rsthtmr] }

/-- ENHINT 1 sets HIE alone; ENHINT 0 clears HIE, HEAT_OUT, IF[0] and IF[1]. On every state exec of ENHINT answers next: with 1 only bit 0 of HCON changes, to 1; with 0 both bits of HCON and the two heater latches become 0, and the button latches stay. (stated: R286) -/
def Obligations.EnhintEnablesOrDisablesAndForcesLow : Prop :=
  ∀ s : State,
  exec (.enhint 1#1) s = .next { s with hcon := s.hcon ||| 0b01#2, port := s.port ++ [.enhint 1#1] } ∧
  exec (.enhint 0#1) s = .next { s with
    hcon := 0b00#2, ifr := s.ifr &&& 0b11100#5, port := s.port ++ [.enhint 0#1] }

/-- SETHOUT b writes HEAT_OUT and leaves HIE. On every state exec answers next with bit 1 of HCON equal to b and bit 0 as before. (stated: R287) -/
def Obligations.SethoutWritesTheHeaterOutput : Prop :=
  ∀ s : State,
  exec (.sethout 0#1) s = .next { s with hcon := s.hcon &&& 0b01#2, port := s.port ++ [.sethout 0#1] } ∧
  exec (.sethout 1#1) s = .next { s with hcon := s.hcon ||| 0b10#2, port := s.port ++ [.sethout 1#1] }

/-- SETCDUTY v writes CDUTY, ENCPWM b writes CPWMEN, and neither touches the other or the counter. On every state exec answers next: CDUTY takes the 10-bit operand unclamped and unscaled; CCON takes the operand bit; nothing else changes. (stated: R288, R289) -/
def Obligations.SetcdutyAndEncpwmWriteTheCoolerRegisters : Prop :=
  ∀ s : State,
  (∀ v : Sample, exec (.setcduty v) s = .next { s with cduty := v, port := s.port ++ [.setcduty v] }) ∧
  (∀ b : BitVec 1, exec (.encpwm b) s = .next { s with ccon := b, port := s.port ++ [.encpwm b] })

/-- The overflow handler raises HEAT_OUT and resets the timer, the match handler lowers HEAT_OUT; each clears its latch. exec of both answers next on every state, so also where the precondition of the rule holds (log entry 8). IRQ TMROVF: HEAT_OUT = 1, HTMR = 0, IF[0] = 0, the command RSTHTMR issued. IRQ CMPMATCH: HEAT_OUT = 0, IF[1] = 0, no command. Nothing else changes, PHASE, HCMP, HIE and FLAGS among it. (stated: R184, R185) -/
def Obligations.HeaterHandlersDriveTheOutput : Prop :=
  ∀ s : State,
  exec .irqTmrovf s = .next { s with
    hcon := s.hcon ||| 0b10#2, htmr := 0#16, ifr := s.ifr &&& 0b11110#5, port := s.port ++ [.rsthtmr] } ∧
  exec .irqCmpmatch s = .next { s with hcon := s.hcon &&& 0b01#2, ifr := s.ifr &&& 0b11101#5 }

/-- Each button handler sets its pending flag and clears its latch, and nothing else. exec of IRQ BTN0EDGE, BTN1EDGE, BTN2EDGE answers next on every state: PEND[k] = 1, IF[2 + k] = 0, no command word; the level, MODE, HYS, PHASE and every other register are unchanged. (stated: R133, R134, R135) -/
def Obligations.ButtonHandlersSetOneFlagAndNothingElse : Prop :=
  ∀ s : State,
  exec .irqBtn0edge s = .next { s with pend := s.pend ||| 0b001#3, ifr := s.ifr &&& 0b11011#5 } ∧
  exec .irqBtn1edge s = .next { s with pend := s.pend ||| 0b010#3, ifr := s.ifr &&& 0b10111#5 } ∧
  exec .irqBtn2edge s = .next { s with pend := s.pend ||| 0b100#3, ifr := s.ifr &&& 0b01111#5 }

/-- S_WDT, the settle, release-settle and pacing phases refresh the watchdog once and advance PHASE. exec of the eight phases answers next on every state with one WDTREFRESH issued and PHASE at the successor the rule names; nothing else changes. (stated: R244, R138, R141, R143, R146, R148, R151, R262) -/
def Obligations.RefreshPhasesRefreshAndAdvance : Prop :=
  ∀ s : State,
  exec .seqSWdt s = .next { s with port := s.port ++ [.wdtrefresh], phase := 1#5 } ∧
  exec .seqSEv0Settle s = .next { s with port := s.port ++ [.wdtrefresh], phase := 6#5 } ∧
  exec .seqSEv0Relsettle s = .next { s with port := s.port ++ [.wdtrefresh], phase := 9#5 } ∧
  exec .seqSEv1Settle s = .next { s with port := s.port ++ [.wdtrefresh], phase := 11#5 } ∧
  exec .seqSEv1Relsettle s = .next { s with port := s.port ++ [.wdtrefresh], phase := 14#5 } ∧
  exec .seqSEv2Settle s = .next { s with port := s.port ++ [.wdtrefresh], phase := 16#5 } ∧
  exec .seqSEv2Relsettle s = .next { s with port := s.port ++ [.wdtrefresh], phase := 19#5 } ∧
  exec .seqSPace s = .next { s with port := s.port ++ [.wdtrefresh], phase := 0#5 }

/-- S_SAMPk stores the analog input of channel k in RAW[k] and advances PHASE. exec of the three sampling phases answers next on every state: RAW[k] = ADCVAL[k], the command SAMPLE k issued, PHASE advanced; nothing else changes. (stated: R241, R242, R243) -/
def Obligations.SamplePhasesStoreTheInput : Prop :=
  ∀ s : State,
  exec .seqSSamp0 s = .next { s with raw0 := s.adc0, port := s.port ++ [.sample 0 s.adc0], phase := 2#5 } ∧
  exec .seqSSamp1 s = .next { s with raw1 := s.adc1, port := s.port ++ [.sample 1 s.adc1], phase := 3#5 } ∧
  exec .seqSSamp2 s = .next { s with raw2 := s.adc2, port := s.port ++ [.sample 2 s.adc2], phase := 4#5 }

/-- S_EVk_CHECK tests and clears PEND[k] in one step and branches on it. exec of the three CHECK phases answers next on every state: with PEND[k] = 1 the flag is cleared and PHASE goes to S_EVk_SETTLE, else PHASE goes to the next event; no command word, no other change. (stated: R137, R142, R147) -/
def Obligations.CheckPhasesTestAndClearOnce : Prop :=
  ∀ s : State,
  exec .seqSEv0Check s = .next (if s.pend.getLsbD 0 = true then
      { s with pend := s.pend &&& 0b110#3, phase := 5#5 } else { s with phase := 9#5 }) ∧
  exec .seqSEv1Check s = .next (if s.pend.getLsbD 1 = true then
      { s with pend := s.pend &&& 0b101#3, phase := 10#5 } else { s with phase := 14#5 }) ∧
  exec .seqSEv2Check s = .next (if s.pend.getLsbD 2 = true then
      { s with pend := s.pend &&& 0b011#3, phase := 15#5 } else { s with phase := 19#5 })

/-- S_EV0_CONFIRM advances MODE modulo 4 if button 0 is asserted, and otherwise does nothing. exec answers next on every state: button 0 asserted gives MODE = (MODE + 1) mod 4 and PHASE = S_EV0_WAITREL; released gives PHASE = S_EV1_CHECK and MODE unchanged; only BTNSTATE 0 is issued and no drive or enable changes. (stated: R139) -/
def Obligations.ConfirmedModeChangeAdvancesMode : Prop :=
  ∀ s : State,
  (s.btnr.getLsbD 0 = false → exec .seqSEv0Confirm s = .next { s with
    mode := BitVec.ofNat 2 ((s.mode.toNat + 1) % 4), port := s.port ++ [.btnstate 0 true], phase := 7#5 }) ∧
  (s.btnr.getLsbD 0 = true → exec .seqSEv0Confirm s = .next { s with
    port := s.port ++ [.btnstate 0 false], phase := 9#5 })

/-- S_EV1_CONFIRM advances HYS modulo 4 if button 1 is asserted, and otherwise does nothing. exec answers next on every state: button 1 asserted gives HYS = (HYS + 1) mod 4 and PHASE = S_EV1_WAITREL; released gives PHASE = S_EV2_CHECK; MODE is unchanged in both. (stated: R144) -/
def Obligations.ConfirmedHysteresisChangeAdvancesLevel : Prop :=
  ∀ s : State,
  (s.btnr.getLsbD 1 = false → exec .seqSEv1Confirm s = .next { s with
    hys := BitVec.ofNat 2 ((s.hys.toNat + 1) % 4), port := s.port ++ [.btnstate 1 true], phase := 12#5 }) ∧
  (s.btnr.getLsbD 1 = true → exec .seqSEv1Confirm s = .next { s with
    port := s.port ++ [.btnstate 1 false], phase := 14#5 })

/-- S_EV2_CONFIRM forces MODE to Off from any mode if button 2 is asserted, and otherwise does nothing. exec answers next on every state: button 2 asserted gives MODE = 0 and PHASE = S_EV2_WAITREL; released gives PHASE = S_RENDER and MODE unchanged; HYS is unchanged in both. (stated: R149) -/
def Obligations.ConfirmedOffRequestForcesOff : Prop :=
  ∀ s : State,
  (s.btnr.getLsbD 2 = false → exec .seqSEv2Confirm s = .next { s with
    mode := 0#2, port := s.port ++ [.btnstate 2 true], phase := 17#5 }) ∧
  (s.btnr.getLsbD 2 = true → exec .seqSEv2Confirm s = .next { s with
    port := s.port ++ [.btnstate 2 false], phase := 19#5 })

/-- S_EVk_WAITREL refreshes, samples button k and repeats until it is released. exec of the three WAITREL phases answers next on every state: WDTREFRESH and BTNSTATE k are issued in this order and PHASE stays while the button is held, else goes to S_EVk_RELSETTLE; nothing else changes. (stated: R140, R145, R150) -/
def Obligations.WaitReleaseRepeatsUntilReleased : Prop :=
  ∀ s : State,
  exec .seqSEv0Waitrel s = .next { s with
      port := s.port ++ [.wdtrefresh, .btnstate 0 (decide (s.btnr.getLsbD 0 = false))]
      phase := if s.btnr.getLsbD 0 = true then 8#5 else 7#5 } ∧
  exec .seqSEv1Waitrel s = .next { s with
      port := s.port ++ [.wdtrefresh, .btnstate 1 (decide (s.btnr.getLsbD 1 = false))]
      phase := if s.btnr.getLsbD 1 = true then 13#5 else 12#5 } ∧
  exec .seqSEv2Waitrel s = .next { s with
      port := s.port ++ [.wdtrefresh, .btnstate 2 (decide (s.btnr.getLsbD 2 = false))]
      phase := if s.btnr.getLsbD 2 = true then 18#5 else 17#5 }

/-- S_RENDER issues display rows 1 to 4 in this order and writes no register but PHASE. exec answers next on every state: the port record gains the four rows, each with MODE, HYS, the samples SP, T and HC are made of, and FLAGS as they stand; the displayed text of row r is the uninterpreted function of row, MODE, HYS, SP, T, HC, HEATER_ON and COOLER_ON; PHASE goes to S_EXEC0. (stated: R256) -/
def Obligations.RenderWritesTheFourRows : Prop :=
  ∀ s : State,
  exec .seqSRender s = .next { s with
    port := s.port ++ [.displine 0#2 s.frame, .displine 1#2 s.frame, .displine 2#2 s.frame,
      .displine 3#2 s.frame]
    phase := 20#5 } ∧
  ∀ t : State, exec .seqSRender { s with port := [] } = .next t →
    displayStream t = [1, 2, 3, 4].map (fun row => (row, Config.displayText row s.mode s.hys
      (setpoint s.raw0) (temperature s.raw2) (controlPercent s.raw1) s.heaterOn s.coolerOn))

/-- S_EXEC0 writes FLAGS with the pair of the selected action and issues no command word. exec answers next on every state: FLAGS = 0b00 for ACT_OFF and ACT_IDLE, 0b01 for ACT_HEAT, 0b10 for ACT_COOL; PHASE = S_EXEC1; nothing else changes. (stated: R257) -/
def Obligations.Exec0WritesTheFlagsOfTheAction : Prop :=
  ∀ s : State,
  (select s = .off ∨ select s = .idle → exec .seqSExec0 s = .next { s with flags := 0b00#2, phase := 21#5 }) ∧
  (select s = .heat → exec .seqSExec0 s = .next { s with flags := 0b01#2, phase := 21#5 }) ∧
  (select s = .cool → exec .seqSExec0 s = .next { s with flags := 0b10#2, phase := 21#5 })

/-- S_EXEC1 issues ENHINT 0, ENCPWM 0 or SETHOUT 0 by the selected action. exec answers next on every state with the effect of ENHINT 0 for ACT_OFF and ACT_IDLE, of ENCPWM 0 for ACT_HEAT, of SETHOUT 0 for ACT_COOL, and PHASE = S_EXEC2; nothing else changes. (stated: R258) -/
def Obligations.Exec1IssuesTheFirstStep : Prop :=
  ∀ s : State,
  (select s = .off ∨ select s = .idle → exec .seqSExec1 s = .next { s with
    hcon := 0b00#2, ifr := s.ifr &&& 0b11100#5, port := s.port ++ [.enhint 0#1], phase := 22#5 }) ∧
  (select s = .heat → exec .seqSExec1 s = .next { s with
    ccon := 0#1, port := s.port ++ [.encpwm 0#1], phase := 22#5 }) ∧
  (select s = .cool → exec .seqSExec1 s = .next { s with
    hcon := s.hcon &&& 0b01#2, port := s.port ++ [.sethout 0#1], phase := 22#5 })

/-- S_EXEC2 issues ENCPWM 0, SETCDUTY 0 or ENHINT 0 by the selected action. exec answers next on every state with the effect of ENCPWM 0 for ACT_OFF and ACT_IDLE, of SETCDUTY 0 for ACT_HEAT, of ENHINT 0 for ACT_COOL, and PHASE = S_EXEC3; nothing else changes. (stated: R259) -/
def Obligations.Exec2IssuesTheSecondStep : Prop :=
  ∀ s : State,
  (select s = .off ∨ select s = .idle → exec .seqSExec2 s = .next { s with
    ccon := 0#1, port := s.port ++ [.encpwm 0#1], phase := 23#5 }) ∧
  (select s = .heat → exec .seqSExec2 s = .next { s with
    cduty := 0#10, port := s.port ++ [.setcduty 0#10], phase := 23#5 }) ∧
  (select s = .cool → exec .seqSExec2 s = .next { s with
    hcon := 0b00#2, ifr := s.ifr &&& 0b11100#5, port := s.port ++ [.enhint 0#1], phase := 23#5 })

/-- S_EXEC3 issues SETHOUT 0, ENHINT 1 or ENCPWM 1 by the selected action. exec answers next on every state with the effect of SETHOUT 0 for ACT_OFF and ACT_IDLE, of ENHINT 1 for ACT_HEAT, of ENCPWM 1 for ACT_COOL, and PHASE = S_EXEC4; nothing else changes. (stated: R260) -/
def Obligations.Exec3IssuesTheThirdStep : Prop :=
  ∀ s : State,
  (select s = .off ∨ select s = .idle → exec .seqSExec3 s = .next { s with
    hcon := s.hcon &&& 0b01#2, port := s.port ++ [.sethout 0#1], phase := 24#5 }) ∧
  (select s = .heat → exec .seqSExec3 s = .next { s with
    hcon := s.hcon ||| 0b01#2, port := s.port ++ [.enhint 1#1], phase := 24#5 }) ∧
  (select s = .cool → exec .seqSExec3 s = .next { s with
    ccon := 1#1, port := s.port ++ [.encpwm 1#1], phase := 24#5 })

/-- S_EXEC4 issues SETCDUTY 0, SETHCMP RAW[1] * 64 or SETCDUTY RAW[1] by the selected action. exec answers next on every state: CDUTY = 0 for ACT_OFF and ACT_IDLE, HCMP = (RAW[1] * 64) mod 65536 for ACT_HEAT, CDUTY = RAW[1] for ACT_COOL, and PHASE = S_PACE; nothing else changes. (stated: R261) -/
def Obligations.Exec4LoadsCompareOrDuty : Prop :=
  ∀ s : State,
  (select s = .off ∨ select s = .idle → exec .seqSExec4 s = .next { s with
    cduty := 0#10, port := s.port ++ [.setcduty 0#10], phase := 25#5 }) ∧
  (select s = .heat → exec .seqSExec4 s = .next { s with
    hcmp := BitVec.ofNat 16 (s.raw1.toNat * 64 % 65536),
    port := s.port ++ [.sethcmp (BitVec.ofNat 16 (s.raw1.toNat * 64 % 65536))], phase := 25#5 }) ∧
  (select s = .cool → exec .seqSExec4 s = .next { s with
    cduty := s.raw1, port := s.port ++ [.setcduty s.raw1], phase := 25#5 })

/-- HTICK counts modulo 65536 and latches overflow and match of the new value only while HIE = 1. When it is the timer that steps and nothing is requested, the step answers next: HTMR = (HTMR + 1) mod 65536; IF[0] is set exactly if the new value is 0 and HIE = 1, IF[1] exactly if it equals HCMP and HIE = 1; no other register changes. (stated: R181, R182, R183) -/
def Obligations.HeaterTickCountsAndLatches : Prop :=
  ∀ s : State, s.cmd = none → offer s = .other .htick → pendingSource s = none →
  step s = .next { s with
    htmr := BitVec.ofNat 16 ((s.htmr.toNat + 1) % 65536)
    ifr := s.ifr ||| (if s.htmr.toNat = 65535 ∧ s.hcon.getLsbD 0 = true then 0b00001#5 else 0#5) |||
      (if (s.htmr.toNat + 1) % 65536 = s.hcmp.toNat ∧ s.hcon.getLsbD 0 = true then 0b00010#5 else 0#5)
    port := [], clock := s.clock + 1, agenda := s.agenda.tail }

/-- CTICK counts CPWMCNT modulo 1024, whatever CPWMEN, and does nothing else. When it is the PWM counter that steps and nothing is requested, the step answers next with CPWMCNT = (CPWMCNT + 1) mod 1024 and no other register changed. (stated: R193) -/
def Obligations.CoolerTickCounts : Prop :=
  ∀ s : State, s.cmd = none → offer s = .other .ctick → pendingSource s = none →
  step s = .next { s with
    cpwmcnt := BitVec.ofNat 10 ((s.cpwmcnt.toNat + 1) % 1024)
    port := [], clock := s.clock + 1, agenda := s.agenda.tail }

/-- ENV_BTN k v moves BTN[k] and sets IF[2 + k] on either edge, and does nothing if the level is the same. When the environment moves button k and nothing is requested, the step answers next: a level other than BTN[k] is stored and sets IF[2 + k], every other bit of BTNR and IFR and every other register unchanged, and the handler of source 2 + k is the next turn unless RESET or a command word comes; the same level changes nothing. No other step but RESET writes BTNR. (stated: R131) -/
def Obligations.ButtonEdgeSetsItsLatch : Prop :=
  ∀ (s : State) (k : Fin 3) (v : Bool), s.cmd = none → offer s = .other (.envBtn k v) →
  pendingSource s = none →
  ∃ t : State, step s = .next t ∧
    (∀ j : Fin 3, t.btnr.getLsbD j = if j = k then v else s.btnr.getLsbD j) ∧
    (∀ n : Nat, n < 5 → t.ifr.getLsbD n =
      if n = 2 + k.val ∧ s.btnr.getLsbD k ≠ v then true else s.ifr.getLsbD n) ∧
    t = { s with btnr := t.btnr, ifr := t.ifr, port := [], clock := s.clock + 1, agenda := s.agenda.tail } ∧
    (s.btnr.getLsbD k ≠ v → offer t ≠ .other .reset →
      nextTurn t = .run (.ev (BitVec.ofNat 3 (2 + k.val)))) ∧
    ∀ u w : State, step u = .next w → w.btnr ≠ u.btnr →
      nextTurn u = .take .reset ∨ ∃ j b, nextTurn u = .take (.envBtn j b)

/-- ENV_ADC k v changes the analog input of channel k and no register. The model holds the input ADCVAL[k] in its own field (log entry 4): when the environment changes channel k and nothing is requested, the step answers next with that input at v, the other two inputs and all sixteen registers unchanged. (derived: 10_state.md section 8) -/
def Obligations.AnalogChangeMovesOnlyItsInput : Prop :=
  ∀ (s : State) (k : Fin 3) (v : Sample), s.cmd = none → offer s = .other (.envAdc k v) →
  pendingSource s = none →
  ∃ t : State, step s = .next t ∧ (∀ j : Fin 3, t.adc j = if j = k then v else s.adc j) ∧
    t = { s with
      adc0 := t.adc0, adc1 := t.adc1, adc2 := t.adc2
      port := [], clock := s.clock + 1, agenda := s.agenda.tail }

/-- The served source is the lowest-numbered one whose latch is set and enabled. The dispatcher serves source n exactly if IF[n] = 1 with n enabled, where sources 0 and 1 are enabled by HIE and sources 2 to 4 always, and no lower-numbered source is set and enabled. (derived: 60_exceptions.md section 2, 60_exceptions.md section 3) -/
def Obligations.LowestRequestedSourceIsServed : Prop :=
  ∀ (s : State) (n : SourceNumber),
  pendingSource s = some n ↔
    n.toNat < 5 ∧ s.ifr.getLsbD n.toNat = true ∧ (n.toNat < 2 → s.hcon.getLsbD 0 = true) ∧
    ∀ m : Nat, m < n.toNat → ¬(s.ifr.getLsbD m = true ∧ (m < 2 → s.hcon.getLsbD 0 = true))

/-- While an enabled latch is set, the only step but RESET is the handler of the lowest such source. In a state with some IF[n] = 1 and IE[n] = 1, no command word presented and no RESET asserted, the turn is that of IRQ m, with m the lowest such number, and the step answers next. That the turn the sequencer, the counters or the environment would have had is not used up is the model's own (log entry 3, DESIGN CHOICE). (derived: 60_exceptions.md section 3) -/
def Obligations.PendingRequestIsServedBeforeAnyOtherAgent : Prop :=
  ∀ (s : State) (n : Nat), s.cmd = none → offer s ≠ .other .reset → n < 5 →
  s.ifr.getLsbD n = true → (n < 2 → s.hcon.getLsbD 0 = true) →
  ∃ (m : SourceNumber) (t : State), nextTurn s = .run (.ev m) ∧ m.toNat ≤ n ∧
    s.ifr.getLsbD m.toNat = true ∧ (m.toNat < 2 → s.hcon.getLsbD 0 = true) ∧
    (∀ j : Nat, j < m.toNat → ¬(s.ifr.getLsbD j = true ∧ (j < 2 → s.hcon.getLsbD 0 = true))) ∧
    step s = .next t ∧ t.phase = s.phase ∧ t.ifr.getLsbD m.toNat = false ∧ t.agenda = s.agenda

/-- voltage, SP, T and HC have their exact formulas, ranges and end points, and T is neither divided by 5 nor clamped. For every raw sample r: voltage = r * 5 / 1023 in [0, 5], strictly increasing, 0 at 0 and 5 at 1023; SP = HC = r * 100 / 1023 in [0, 100], 0 at 0 and 100 at 1023; T = r * 500 / 1023 in [0, 500], above 100 exactly from r = 205 on, and 500 at 1023. (stated: R161, R162, R163, R164) -/
def Obligations.DerivedValuesFollowTheirFormulas : Prop :=
  (∀ r : Sample,
    voltage r = (r.toNat : Rat) * 5 / 1023 ∧ 0 ≤ voltage r ∧ voltage r ≤ 5 ∧
    setpoint r = (r.toNat : Rat) * 100 / 1023 ∧ 0 ≤ setpoint r ∧ setpoint r ≤ 100 ∧
    controlPercent r = (r.toNat : Rat) * 100 / 1023 ∧ 0 ≤ controlPercent r ∧ controlPercent r ≤ 100 ∧
    temperature r = (r.toNat : Rat) * 500 / 1023 ∧ 0 ≤ temperature r ∧ temperature r ≤ 500 ∧
    (100 < temperature r ↔ 205 ≤ r.toNat)) ∧
  (∀ r q : Sample, r < q → voltage r < voltage q) ∧
  voltage 0#10 = 0 ∧ voltage 1023#10 = 5 ∧ setpoint 0#10 = 0 ∧ setpoint 1023#10 = 100 ∧
  temperature 1023#10 = 500

/-- AC decides COOL above the setpoint, HEAT below the band of width h, IDLE inside it, both edges included. For all rationals T and SP and every level h: T > SP gives COOL whatever h; T < SP - h gives HEAT; SP - h <= T <= SP gives IDLE. The three cases exclude each other and cover everything; the band width is the level itself. (stated: R165, R166) -/
def Obligations.ComparatorDecidesByTheBand : Prop :=
  ∀ (t sp : Rat) (h : BitVec 2),
  bandWidth h = (h.toNat : Rat) ∧
  (sp < t → autoCool t sp h = .cool) ∧
  (t < sp - (h.toNat : Rat) → autoCool t sp h = .heat) ∧
  (sp - (h.toNat : Rat) ≤ t → t ≤ sp → autoCool t sp h = .idle)

/-- The integer comparator the machine evaluates gives the decision of the exact rational one on every input. For every RAW[0], RAW[2] and HYS, AC on the exact T and SP equals the integer comparison 5 * RAW[2] > RAW[0], then 500 * RAW[2] + 1023 * HYS < 100 * RAW[0] (log entry 10; the spec marks the integer form as derived). (derived: 41_sensor_derivation.md section 2, 41_sensor_derivation.md section 3) -/
def Obligations.IntegerComparatorAgreesWithTheRationalOne : Prop :=
  ∀ (raw0 raw2 : Sample) (h : BitVec 2),
  autoCool (temperature raw2) (setpoint raw0) h = autoCoolRaw raw0 raw2 h

/-- SEL is ACT_OFF, ACT_HEAT, ACT_COOL by MODE, and under AutoCool the action of the exact comparator. For every state: MODE = 0 selects ACT_OFF, 1 ACT_HEAT, 2 ACT_COOL, and MODE = 3 selects ACT_COOL, ACT_HEAT or ACT_IDLE as AC(T, SP, HYS) is COOL, HEAT or IDLE; and the selection is the same in two states that agree on MODE, HYS, RAW[0] and RAW[2]. (stated: R225, R226) -/
def Obligations.ActionIsSelectedByModeAndComparator : Prop :=
  (∀ s : State,
    (s.mode = 0#2 → select s = .off) ∧ (s.mode = 1#2 → select s = .heat) ∧
    (s.mode = 2#2 → select s = .cool) ∧
    (s.mode = 3#2 →
      (select s = .cool ↔ autoCool (temperature s.raw2) (setpoint s.raw0) s.hys = .cool) ∧
      (select s = .heat ↔ autoCool (temperature s.raw2) (setpoint s.raw0) s.hys = .heat) ∧
      (select s = .idle ↔ autoCool (temperature s.raw2) (setpoint s.raw0) s.hys = .idle))) ∧
  (∀ s t : State, s.mode = t.mode → s.hys = t.hys → s.raw0 = t.raw0 → s.raw2 = t.raw2 →
    select s = select t)

/-- The heater compare value is (r * 64) mod 65536, never saturated, and no 10-bit sample wraps it. For every number r the loaded value is the low 16 bits of r * 64; for a 10-bit sample it is r * 64 itself, at most 65472, with the low six bits 0. (stated: R228) -/
def Obligations.CompareValueWrapsAndNeverSaturates : Prop :=
  (∀ r : Nat, (heaterCompare r).toNat = r * 64 % 65536) ∧
  (∀ s : State, (sethcmpOperand s).toNat = s.raw1.toNat * 64 ∧ s.raw1.toNat * 64 ≤ 65472 ∧
    sethcmpOperand s &&& 0b111111#16 = 0#16)

/-- COOL_OUT is the wire CPWMEN = 1 and CPWMCNT < CDUTY, high for exactly CDUTY of any 1024 ticks. For every state the wire is 1 exactly if CPWMEN = 1 and CPWMCNT < CDUTY; with CPWMEN = 0 it is 0; with CPWMEN = 1 and CDUTY = d it is 1 after d of the first 1024 numbers of CTICK steps from the state, wherever the counter stands; so it is 0 after at least one of them. (stated: R194) -/
def Obligations.CoolerOutputIsHighForTheDuty : Prop :=
  ∀ s : State,
  (s.coolOut = true ↔ s.ccon = 1#1 ∧ s.cpwmcnt.toNat < s.cduty.toNat) ∧
  (s.ccon = 0#1 → s.coolOut = false) ∧
  (s.ccon = 1#1 → ((List.range 1024).filter (fun n => State.coolOut (ctick^[n] s))).length = s.cduty.toNat ∧
    ∃ n : Nat, n < 1024 ∧ State.coolOut (ctick^[n] s) = false)

/-- The invariant holds at reset. State.reset has a legal phase, FLAGS not 0b11, the heater low while disabled, no stale heater request, the two drives not both enabled, and no command word presented. (derived: 10_state.md section 11, 43_mode_machine.md section 5) -/
def Obligations.ResetStateIsSafe : Prop :=
  SafeState State.reset

/-- Every step of every agent keeps the invariant: legal phase, legal flags, heater low while disabled, drives exclusive. From every state that satisfies the invariant, whatever agent steps, the next state satisfies it: PHASE in 0 to 25, FLAGS not 0b11, HIE = 0 implies HEAT_OUT = 0 and IF[0] = IF[1] = 0, HIE and CPWMEN never both 1, also between two steps of an action. (derived: 10_state.md section 11, 43_mode_machine.md section 5) -/
def Obligations.EveryStepKeepsTheSafeState : Prop :=
  ∀ s t : State, SafeState s → step s = .next t → SafeState t

/-- From every safe state the next step answers a next state: nothing faults, nothing is refused, nothing is stuck. With no command word presented from outside and PHASE a legal code, step answers next, whichever agent steps and whatever the other registers hold. (derived: 44_sequencer.md section 1, 60_exceptions.md section 1) -/
def Obligations.SafeMachineNeverStops : Prop :=
  ∀ s : State, s.cmd = none → s.phase.toNat ≤ 25 → ∃ t : State, step s = .next t

/-- In a safe state, when a sequencer, counter or environment step begins, IFR is 0. From every state that satisfies the invariant, if the next turn is not a handler and not RESET, then all five request latches are 0. (derived: 10_state.md section 8, 10_state.md section 11) -/
def Obligations.RequestsAreClearWhenOthersStep : Prop :=
  ∀ s : State, SafeState s → (∀ n, nextTurn s ≠ .run (.ev n)) → nextTurn s ≠ .take .reset → s.ifr = 0b00000#5

/-- Every register changes only in the steps that own it. In every step that answers next, a register outside the list of the turn (mayWrite) keeps its value: each phase writes PHASE and its own registers, each handler its output, flag and latch, each tick its counter and latches, ENV_BTN the buttons and their latches, ENV_ADC nothing, RESET everything. (derived: 60_exceptions.md section 7) -/
def Obligations.EveryRegisterHasItsWriters : Prop :=
  ∀ (s t : State) (r : Reg), step s = .next t → r ∉ mayWrite (nextTurn s) → r.read t = r.read s

/-- PEND[k] rises only in the handler of source 2 + k and falls only in S_EVk_CHECK or RESET. In every step with no command word presented: if PEND[k] goes from 0 to 1 the turn is IRQ 2 + k; if it goes from 1 to 0 the turn is phase 4 + 5k, or RESET. (derived: 10_state.md section 4) -/
def Obligations.PendingFlagsRiseInHandlersAndFallInChecks : Prop :=
  ∀ (s t : State) (k : Fin 3), s.cmd = none → step s = .next t →
  (s.pendBit k = false → t.pendBit k = true → nextTurn s = .run (.ev (BitVec.ofNat 3 (2 + k.val)))) ∧
  (s.pendBit k = true → t.pendBit k = false →
    nextTurn s = .run (.ph (BitVec.ofNat 5 (4 + 5 * k.val))) ∨ nextTurn s = .take .reset)

/-- MODE changes only by a confirmed mode-change, to the next mode, by a confirmed off-request, to Off, or by RESET. In every step with no command word presented that changes MODE, the turn is S_EV0_CONFIRM with button 0 asserted and MODE advances by 1 modulo 4, or S_EV2_CONFIRM with button 2 asserted and MODE is 0, or RESET and MODE is 0; the AutoCool decision never changes it. (stated: R210) -/
def Obligations.ModeChangesOnlyByConfirmedEvents : Prop :=
  ∀ s t : State, s.cmd = none → step s = .next t → t.mode ≠ s.mode →
  (nextTurn s = .run (.ph 6#5) ∧ s.btn 0 = false ∧ t.mode.toNat = (s.mode.toNat + 1) % 4) ∨
  (nextTurn s = .run (.ph 16#5) ∧ s.btn 2 = false ∧ t.mode = 0#2) ∨
  (nextTurn s = .take .reset ∧ t.mode = 0#2)

/-- HEAT_OUT goes from 0 to 1 only in the timer-overflow handler, and only while HIE = 1. In every step with no command word presented, if HEAT_OUT rises then the turn is IRQ TMROVF and HIE is 1. (derived: 10_state.md section 6, 60_exceptions.md section 7) -/
def Obligations.HeaterRisesOnlyInTheOverflowHandler : Prop :=
  ∀ s t : State, s.cmd = none → step s = .next t → s.heatOut = false → t.heatOut = true →
  nextTurn s = .run (.ev 0#3) ∧ s.hie = true

/-- No phase reads HTMR, HCMP, HCON, CDUTY, CCON, CPWMCNT or IFR. For every phase and any two states that differ only in these seven registers, both steps answer next and agree on MODE, HYS, RAW, FLAGS, PEND, PHASE and on every command word issued with its result. (derived: 60_exceptions.md section 7) -/
def Obligations.SequencerDoesNotReadTheTimers : Prop :=
  ∀ (p : PhaseCode) (i : Instr), decode (.ph p) = .ok i →
  ∀ (s : State) (htmr hcmp : Count) (hcon : BitVec 2) (cduty cnt : Sample) (ccon : BitVec 1) (ifr : BitVec 5),
  ∃ t u : State, exec i s = .next t ∧
    exec i { s with htmr := htmr, hcmp := hcmp, hcon := hcon, cduty := cduty, ccon := ccon, cpwmcnt := cnt,
                    ifr := ifr } = .next u ∧
    t.mode = u.mode ∧ t.hys = u.hys ∧ t.raw0 = u.raw0 ∧ t.raw1 = u.raw1 ∧ t.raw2 = u.raw2 ∧
    t.flags = u.flags ∧ t.pend = u.pend ∧ t.phase = u.phase ∧ t.port = u.port

/-- A sequencer step takes PHASE to the successor of the phase graph. For every sequencer step from a legal phase: the plain phases go to the next code, 25 to 0, and for each event k the five phases 4 + 5k to 8 + 5k branch on PEND[k] and button k as the successor function says. (derived: 44_sequencer.md section 6) -/
def Obligations.SuccessorOfEveryPhase : Prop :=
  ∀ s : State, s.cmd = none → offer s = .seq → pendingSource s = none → s.phase.toNat ≤ 25 →
  ∃ t : State, step s = .next t ∧
    (s.phase.toNat ∈ [0, 1, 2, 3, 19, 20, 21, 22, 23, 24] → t.phase.toNat = s.phase.toNat + 1) ∧
    (s.phase.toNat = 25 → t.phase.toNat = 0) ∧
    ∀ k : Fin 3,
      (s.phase.toNat = 4 + 5 * k.val → t.phase.toNat =
        if s.pendBit k = true then 5 + 5 * k.val else (nextEvent k).toNat) ∧
      (s.phase.toNat = 5 + 5 * k.val → t.phase.toNat = 6 + 5 * k.val) ∧
      (s.phase.toNat = 6 + 5 * k.val → t.phase.toNat =
        if s.btn k = false then 7 + 5 * k.val else (nextEvent k).toNat) ∧
      (s.phase.toNat = 7 + 5 * k.val → t.phase.toNat =
        if s.btn k = true then 8 + 5 * k.val else 7 + 5 * k.val) ∧
      (s.phase.toNat = 8 + 5 * k.val → t.phase.toNat = (nextEvent k).toNat)

/-- Every sequencer step refreshes the watchdog or brings the next refresh nearer, so at most 12 steps go without one. For every sequencer step from a legal phase, either the step issues WDTREFRESH or the rank of PHASE falls; the rank is at most 13, that of S_SAMP0, and counts the refreshing step. (derived: 60_exceptions.md section 9) -/
def Obligations.WatchdogIsRefreshedWithinThirteenSteps : Prop :=
  (∀ p : PhaseCode, 1 ≤ refreshRank p ∧ refreshRank p ≤ 13) ∧
  ∀ s : State, s.cmd = none → offer s = .seq → pendingSource s = none → s.phase.toNat ≤ 25 →
    ∃ t : State, step s = .next t ∧
      (1 ≤ watchdogStrobes t ∨ refreshRank t.phase < refreshRank s.phase)

/-- A pending event whose button is released at the re-sample is discarded: only PEND[k] and PHASE change. For every event k: from its CHECK phase with PEND[k] set and button k released, three sequencer steps with nothing requested clear PEND[k] and arrive at the next event, and no other register changes. (derived: 40_debounce_events.md section 8) -/
def Obligations.NoiseIsDiscardedInThreeSteps : Prop :=
  ∀ (s : State) (k : Fin 3) (rest : List AgentStep), s.cmd = none → s.ifr = 0#5 →
  s.agenda = .seq :: .seq :: .seq :: rest → s.phase.toNat = 4 + 5 * k.val →
  s.pendBit k = true → s.btn k = true →
  Sys2Proof.core.run 3 s = .next { s with
    pend := setBit s.pend k false, phase := nextEvent k, agenda := rest, clock := s.clock + 3
    port := [.btnstate k false] }

/-- The five steps of each action leave the drives as the action says, whatever they were. From S_EXEC0 with nothing requested, five sequencer steps end at S_PACE with: ACT_OFF and ACT_IDLE, FLAGS = 0b00, HIE = HEAT_OUT = 0, CPWMEN = 0, CDUTY = 0; ACT_HEAT, FLAGS = 0b01, CPWMEN = 0, CDUTY = 0, HIE = 1, HCMP = RAW[1] * 64, HEAT_OUT as it was; ACT_COOL, FLAGS = 0b10, HIE = HEAT_OUT = 0, CPWMEN = 1, CDUTY = RAW[1]; every other register unchanged, MODE among them. (derived: 43_mode_machine.md section 3) -/
def Obligations.ActionsCompleteInFiveSteps : Prop :=
  ∀ (s : State) (rest : List AgentStep), s.cmd = none → s.ifr = 0#5 → s.phase = 20#5 →
  s.agenda = List.replicate 5 .seq ++ rest →
  (select s = .off → Sys2Proof.core.run 5 s = .next { s with
      flags := 0b00#2, hcon := 0b00#2, ccon := 0#1, cduty := 0#10, port := [.setcduty 0#10]
      phase := 25#5, agenda := rest, clock := s.clock + 5 }) ∧
  (select s = .idle → Sys2Proof.core.run 5 s = .next { s with
      flags := 0b00#2, hcon := 0b00#2, ccon := 0#1, cduty := 0#10, port := [.setcduty 0#10]
      phase := 25#5, agenda := rest, clock := s.clock + 5 }) ∧
  (select s = .heat → Sys2Proof.core.run 5 s = .next { s with
      flags := 0b01#2, hcon := s.hcon ||| 0b01#2, ccon := 0#1, cduty := 0#10
      hcmp := BitVec.ofNat 16 (s.raw1.toNat * 64)
      port := [.sethcmp (BitVec.ofNat 16 (s.raw1.toNat * 64))]
      phase := 25#5, agenda := rest, clock := s.clock + 5 }) ∧
  (select s = .cool → Sys2Proof.core.run 5 s = .next { s with
      flags := 0b10#2, hcon := 0b00#2, ccon := 1#1, cduty := s.raw1, port := [.setcduty s.raw1]
      phase := 25#5, agenda := rest, clock := s.clock + 5 })

/-- An iteration with no pending event takes 14 sequencer steps; in mode Off it leaves the drives off. From S_WDT with nothing pending and nothing requested, 14 sequencer steps end at S_WDT again with RAW holding the three inputs, MODE, HYS and PEND unchanged and FLAGS those of the action selected from the fresh samples; with MODE = 0 the drive registers end as the reset state has them. (derived: 44_sequencer.md section 6, 70_reset_and_hazards.md section 2) -/
def Obligations.IterationWithNoEventTakesFourteenSteps : Prop :=
  ∀ (s : State) (rest : List AgentStep), s.cmd = none → s.ifr = 0#5 → s.pend = 0#3 → s.phase = 0#5 →
  s.agenda = List.replicate 14 .seq ++ rest →
  ∃ t : State, Sys2Proof.core.run 14 s = .next t ∧ t.phase = 0#5 ∧ t.agenda = rest ∧
    t.raw0 = s.adc0 ∧ t.raw1 = s.adc1 ∧ t.raw2 = s.adc2 ∧ t.mode = s.mode ∧ t.hys = s.hys ∧
    t.pend = 0#3 ∧ t.flags = actionFlags (select t) ∧ t.htmr = s.htmr ∧ t.cpwmcnt = s.cpwmcnt ∧
    t.btnr = s.btnr ∧ t.ifr = 0#5 ∧
    (s.mode = 0#2 → t.flags = 0#2 ∧ t.hcon = 0#2 ∧ t.ccon = 0#1 ∧ t.cduty = 0#10 ∧ t.hcmp = s.hcmp)

/-- Over a period HEAT_OUT is high for exactly HCMP ticks and low for the rest, and rises again at the wrap. From HTMR = 0 with HEAT_OUT = 1, HIE = 1 and HCMP = c not 0, after n < 65536 timer ticks with the handlers they force, HTMR = n and HEAT_OUT = 1 exactly if n < c; and from HTMR = 65535 one more tick and its handler give HTMR = 0 and HEAT_OUT = 1. So the output is high for c of the 65536 ticks. (derived: 42_heater_timing.md section 5) -/
def Obligations.HeaterDutyIsTheCompareValue : Prop :=
  (∀ (n : Nat) (s : State) (rest : List AgentStep), n < 65536 → s.cmd = none → s.ifr = 0#5 → s.hie = true →
    s.hcmp ≠ 0#16 → s.htmr = 0#16 → s.heatOut = true →
    s.agenda = List.replicate n (.other .htick) ++ .seq :: rest →
    ∃ t : State, Sys2Proof.core.run (if n < s.hcmp.toNat then n else n + 1) s = .next t ∧
      t.htmr.toNat = n ∧ t.heatOut = decide (n < s.hcmp.toNat) ∧ t.hie = true ∧ t.hcmp = s.hcmp ∧
      t.ifr = 0#5 ∧ t.cmd = none ∧ t.agenda = .seq :: rest) ∧
  (∀ (s : State) (rest : List AgentStep), s.cmd = none → s.ifr = 0#5 → s.hie = true → s.hcmp ≠ 0#16 →
    s.htmr = 65535#16 → s.agenda = .other .htick :: .seq :: rest →
    ∃ t : State, Sys2Proof.core.run 2 s = .next t ∧ t.htmr = 0#16 ∧ t.heatOut = true ∧ t.hie = true ∧
      t.hcmp = s.hcmp ∧ t.ifr = 0#5 ∧ t.agenda = .seq :: rest)

/-- With HCMP = 0 the wrapping tick sets both latches, and the overflow handler then the match handler leave HEAT_OUT = 0. From HTMR = 65535, HCMP = 0, HIE = 1 and nothing requested, one timer tick sets IF[0] and IF[1]; the next step is IRQ TMROVF and drives the output high; the next is IRQ CMPMATCH and drives it low; no other agent steps between. (derived: 42_heater_timing.md section 5) -/
def Obligations.ZeroCompareValueGivesZeroDuty : Prop :=
  ∀ (s : State) (rest : List AgentStep), s.cmd = none → s.ifr = 0#5 → s.hie = true → s.hcmp = 0#16 →
  s.htmr = 65535#16 → s.agenda = .other .htick :: .seq :: rest →
  ∃ a b c : State, step s = .next a ∧ a.ifr = 0b00011#5 ∧ a.htmr = 0#16 ∧
    nextTurn a = .run (.ev 0#3) ∧ step a = .next b ∧ b.heatOut = true ∧ b.ifr = 0b00010#5 ∧
    nextTurn b = .run (.ev 1#3) ∧ step b = .next c ∧ c.heatOut = false ∧ c.ifr = 0#5 ∧ c.htmr = 0#16 ∧
    nextTurn c = .run (.ph s.phase)
end

