-- ==== Sys2Proof/Laws/State.lean ====
section
/-! SUPPORT. One lemma per field of State for each named update, so that no later proof unfolds a record
update. -/

namespace Sys2Proof.Machine

namespace State

variable (s : State)

@[simp] theorem setMode_mode (v : BitVec 2) : (s.setMode v).mode = v := rfl
@[simp] theorem setMode_hys (v : BitVec 2) : (s.setMode v).hys = s.hys := rfl
@[simp] theorem setMode_raw0 (v : BitVec 2) : (s.setMode v).raw0 = s.raw0 := rfl
@[simp] theorem setMode_raw1 (v : BitVec 2) : (s.setMode v).raw1 = s.raw1 := rfl
@[simp] theorem setMode_raw2 (v : BitVec 2) : (s.setMode v).raw2 = s.raw2 := rfl
@[simp] theorem setMode_flags (v : BitVec 2) : (s.setMode v).flags = s.flags := rfl
@[simp] theorem setMode_pend (v : BitVec 2) : (s.setMode v).pend = s.pend := rfl
@[simp] theorem setMode_phase (v : BitVec 2) : (s.setMode v).phase = s.phase := rfl
@[simp] theorem setMode_htmr (v : BitVec 2) : (s.setMode v).htmr = s.htmr := rfl
@[simp] theorem setMode_hcmp (v : BitVec 2) : (s.setMode v).hcmp = s.hcmp := rfl
@[simp] theorem setMode_hcon (v : BitVec 2) : (s.setMode v).hcon = s.hcon := rfl
@[simp] theorem setMode_cduty (v : BitVec 2) : (s.setMode v).cduty = s.cduty := rfl
@[simp] theorem setMode_ccon (v : BitVec 2) : (s.setMode v).ccon = s.ccon := rfl
@[simp] theorem setMode_cpwmcnt (v : BitVec 2) : (s.setMode v).cpwmcnt = s.cpwmcnt := rfl
@[simp] theorem setMode_btnr (v : BitVec 2) : (s.setMode v).btnr = s.btnr := rfl
@[simp] theorem setMode_ifr (v : BitVec 2) : (s.setMode v).ifr = s.ifr := rfl
@[simp] theorem setMode_adc0 (v : BitVec 2) : (s.setMode v).adc0 = s.adc0 := rfl
@[simp] theorem setMode_adc1 (v : BitVec 2) : (s.setMode v).adc1 = s.adc1 := rfl
@[simp] theorem setMode_adc2 (v : BitVec 2) : (s.setMode v).adc2 = s.adc2 := rfl
@[simp] theorem setMode_agenda (v : BitVec 2) : (s.setMode v).agenda = s.agenda := rfl
@[simp] theorem setMode_clock (v : BitVec 2) : (s.setMode v).clock = s.clock := rfl
@[simp] theorem setMode_port (v : BitVec 2) : (s.setMode v).port = s.port := rfl
@[simp] theorem setMode_cmd (v : BitVec 2) : (s.setMode v).cmd = s.cmd := rfl

@[simp] theorem setHys_mode (v : BitVec 2) : (s.setHys v).mode = s.mode := rfl
@[simp] theorem setHys_hys (v : BitVec 2) : (s.setHys v).hys = v := rfl
@[simp] theorem setHys_raw0 (v : BitVec 2) : (s.setHys v).raw0 = s.raw0 := rfl
@[simp] theorem setHys_raw1 (v : BitVec 2) : (s.setHys v).raw1 = s.raw1 := rfl
@[simp] theorem setHys_raw2 (v : BitVec 2) : (s.setHys v).raw2 = s.raw2 := rfl
@[simp] theorem setHys_flags (v : BitVec 2) : (s.setHys v).flags = s.flags := rfl
@[simp] theorem setHys_pend (v : BitVec 2) : (s.setHys v).pend = s.pend := rfl
@[simp] theorem setHys_phase (v : BitVec 2) : (s.setHys v).phase = s.phase := rfl
@[simp] theorem setHys_htmr (v : BitVec 2) : (s.setHys v).htmr = s.htmr := rfl
@[simp] theorem setHys_hcmp (v : BitVec 2) : (s.setHys v).hcmp = s.hcmp := rfl
@[simp] theorem setHys_hcon (v : BitVec 2) : (s.setHys v).hcon = s.hcon := rfl
@[simp] theorem setHys_cduty (v : BitVec 2) : (s.setHys v).cduty = s.cduty := rfl
@[simp] theorem setHys_ccon (v : BitVec 2) : (s.setHys v).ccon = s.ccon := rfl
@[simp] theorem setHys_cpwmcnt (v : BitVec 2) : (s.setHys v).cpwmcnt = s.cpwmcnt := rfl
@[simp] theorem setHys_btnr (v : BitVec 2) : (s.setHys v).btnr = s.btnr := rfl
@[simp] theorem setHys_ifr (v : BitVec 2) : (s.setHys v).ifr = s.ifr := rfl
@[simp] theorem setHys_adc0 (v : BitVec 2) : (s.setHys v).adc0 = s.adc0 := rfl
@[simp] theorem setHys_adc1 (v : BitVec 2) : (s.setHys v).adc1 = s.adc1 := rfl
@[simp] theorem setHys_adc2 (v : BitVec 2) : (s.setHys v).adc2 = s.adc2 := rfl
@[simp] theorem setHys_agenda (v : BitVec 2) : (s.setHys v).agenda = s.agenda := rfl
@[simp] theorem setHys_clock (v : BitVec 2) : (s.setHys v).clock = s.clock := rfl
@[simp] theorem setHys_port (v : BitVec 2) : (s.setHys v).port = s.port := rfl
@[simp] theorem setHys_cmd (v : BitVec 2) : (s.setHys v).cmd = s.cmd := rfl

@[simp] theorem setRaw_mode (k : Fin 3) (v : Sample) : (s.setRaw k v).mode = s.mode := rfl
@[simp] theorem setRaw_hys (k : Fin 3) (v : Sample) : (s.setRaw k v).hys = s.hys := rfl
@[simp] theorem setRaw_raw0 (k : Fin 3) (v : Sample) : (s.setRaw k v).raw0 = if k = 0 then v else s.raw0 := rfl
@[simp] theorem setRaw_raw1 (k : Fin 3) (v : Sample) : (s.setRaw k v).raw1 = if k = 1 then v else s.raw1 := rfl
@[simp] theorem setRaw_raw2 (k : Fin 3) (v : Sample) : (s.setRaw k v).raw2 = if k = 2 then v else s.raw2 := rfl
@[simp] theorem setRaw_flags (k : Fin 3) (v : Sample) : (s.setRaw k v).flags = s.flags := rfl
@[simp] theorem setRaw_pend (k : Fin 3) (v : Sample) : (s.setRaw k v).pend = s.pend := rfl
@[simp] theorem setRaw_phase (k : Fin 3) (v : Sample) : (s.setRaw k v).phase = s.phase := rfl
@[simp] theorem setRaw_htmr (k : Fin 3) (v : Sample) : (s.setRaw k v).htmr = s.htmr := rfl
@[simp] theorem setRaw_hcmp (k : Fin 3) (v : Sample) : (s.setRaw k v).hcmp = s.hcmp := rfl
@[simp] theorem setRaw_hcon (k : Fin 3) (v : Sample) : (s.setRaw k v).hcon = s.hcon := rfl
@[simp] theorem setRaw_cduty (k : Fin 3) (v : Sample) : (s.setRaw k v).cduty = s.cduty := rfl
@[simp] theorem setRaw_ccon (k : Fin 3) (v : Sample) : (s.setRaw k v).ccon = s.ccon := rfl
@[simp] theorem setRaw_cpwmcnt (k : Fin 3) (v : Sample) : (s.setRaw k v).cpwmcnt = s.cpwmcnt := rfl
@[simp] theorem setRaw_btnr (k : Fin 3) (v : Sample) : (s.setRaw k v).btnr = s.btnr := rfl
@[simp] theorem setRaw_ifr (k : Fin 3) (v : Sample) : (s.setRaw k v).ifr = s.ifr := rfl
@[simp] theorem setRaw_adc0 (k : Fin 3) (v : Sample) : (s.setRaw k v).adc0 = s.adc0 := rfl
@[simp] theorem setRaw_adc1 (k : Fin 3) (v : Sample) : (s.setRaw k v).adc1 = s.adc1 := rfl
@[simp] theorem setRaw_adc2 (k : Fin 3) (v : Sample) : (s.setRaw k v).adc2 = s.adc2 := rfl
@[simp] theorem setRaw_agenda (k : Fin 3) (v : Sample) : (s.setRaw k v).agenda = s.agenda := rfl
@[simp] theorem setRaw_clock (k : Fin 3) (v : Sample) : (s.setRaw k v).clock = s.clock := rfl
@[simp] theorem setRaw_port (k : Fin 3) (v : Sample) : (s.setRaw k v).port = s.port := rfl
@[simp] theorem setRaw_cmd (k : Fin 3) (v : Sample) : (s.setRaw k v).cmd = s.cmd := rfl

@[simp] theorem setFlags_mode (v : BitVec 2) : (s.setFlags v).mode = s.mode := rfl
@[simp] theorem setFlags_hys (v : BitVec 2) : (s.setFlags v).hys = s.hys := rfl
@[simp] theorem setFlags_raw0 (v : BitVec 2) : (s.setFlags v).raw0 = s.raw0 := rfl
@[simp] theorem setFlags_raw1 (v : BitVec 2) : (s.setFlags v).raw1 = s.raw1 := rfl
@[simp] theorem setFlags_raw2 (v : BitVec 2) : (s.setFlags v).raw2 = s.raw2 := rfl
@[simp] theorem setFlags_flags (v : BitVec 2) : (s.setFlags v).flags = v := rfl
@[simp] theorem setFlags_pend (v : BitVec 2) : (s.setFlags v).pend = s.pend := rfl
@[simp] theorem setFlags_phase (v : BitVec 2) : (s.setFlags v).phase = s.phase := rfl
@[simp] theorem setFlags_htmr (v : BitVec 2) : (s.setFlags v).htmr = s.htmr := rfl
@[simp] theorem setFlags_hcmp (v : BitVec 2) : (s.setFlags v).hcmp = s.hcmp := rfl
@[simp] theorem setFlags_hcon (v : BitVec 2) : (s.setFlags v).hcon = s.hcon := rfl
@[simp] theorem setFlags_cduty (v : BitVec 2) : (s.setFlags v).cduty = s.cduty := rfl
@[simp] theorem setFlags_ccon (v : BitVec 2) : (s.setFlags v).ccon = s.ccon := rfl
@[simp] theorem setFlags_cpwmcnt (v : BitVec 2) : (s.setFlags v).cpwmcnt = s.cpwmcnt := rfl
@[simp] theorem setFlags_btnr (v : BitVec 2) : (s.setFlags v).btnr = s.btnr := rfl
@[simp] theorem setFlags_ifr (v : BitVec 2) : (s.setFlags v).ifr = s.ifr := rfl
@[simp] theorem setFlags_adc0 (v : BitVec 2) : (s.setFlags v).adc0 = s.adc0 := rfl
@[simp] theorem setFlags_adc1 (v : BitVec 2) : (s.setFlags v).adc1 = s.adc1 := rfl
@[simp] theorem setFlags_adc2 (v : BitVec 2) : (s.setFlags v).adc2 = s.adc2 := rfl
@[simp] theorem setFlags_agenda (v : BitVec 2) : (s.setFlags v).agenda = s.agenda := rfl
@[simp] theorem setFlags_clock (v : BitVec 2) : (s.setFlags v).clock = s.clock := rfl
@[simp] theorem setFlags_port (v : BitVec 2) : (s.setFlags v).port = s.port := rfl
@[simp] theorem setFlags_cmd (v : BitVec 2) : (s.setFlags v).cmd = s.cmd := rfl

@[simp] theorem setPend_mode (k : Fin 3) (b : Bool) : (s.setPend k b).mode = s.mode := rfl
@[simp] theorem setPend_hys (k : Fin 3) (b : Bool) : (s.setPend k b).hys = s.hys := rfl
@[simp] theorem setPend_raw0 (k : Fin 3) (b : Bool) : (s.setPend k b).raw0 = s.raw0 := rfl
@[simp] theorem setPend_raw1 (k : Fin 3) (b : Bool) : (s.setPend k b).raw1 = s.raw1 := rfl
@[simp] theorem setPend_raw2 (k : Fin 3) (b : Bool) : (s.setPend k b).raw2 = s.raw2 := rfl
@[simp] theorem setPend_flags (k : Fin 3) (b : Bool) : (s.setPend k b).flags = s.flags := rfl
@[simp] theorem setPend_pend (k : Fin 3) (b : Bool) : (s.setPend k b).pend = setBit s.pend k b := rfl
@[simp] theorem setPend_phase (k : Fin 3) (b : Bool) : (s.setPend k b).phase = s.phase := rfl
@[simp] theorem setPend_htmr (k : Fin 3) (b : Bool) : (s.setPend k b).htmr = s.htmr := rfl
@[simp] theorem setPend_hcmp (k : Fin 3) (b : Bool) : (s.setPend k b).hcmp = s.hcmp := rfl
@[simp] theorem setPend_hcon (k : Fin 3) (b : Bool) : (s.setPend k b).hcon = s.hcon := rfl
@[simp] theorem setPend_cduty (k : Fin 3) (b : Bool) : (s.setPend k b).cduty = s.cduty := rfl
@[simp] theorem setPend_ccon (k : Fin 3) (b : Bool) : (s.setPend k b).ccon = s.ccon := rfl
@[simp] theorem setPend_cpwmcnt (k : Fin 3) (b : Bool) : (s.setPend k b).cpwmcnt = s.cpwmcnt := rfl
@[simp] theorem setPend_btnr (k : Fin 3) (b : Bool) : (s.setPend k b).btnr = s.btnr := rfl
@[simp] theorem setPend_ifr (k : Fin 3) (b : Bool) : (s.setPend k b).ifr = s.ifr := rfl
@[simp] theorem setPend_adc0 (k : Fin 3) (b : Bool) : (s.setPend k b).adc0 = s.adc0 := rfl
@[simp] theorem setPend_adc1 (k : Fin 3) (b : Bool) : (s.setPend k b).adc1 = s.adc1 := rfl
@[simp] theorem setPend_adc2 (k : Fin 3) (b : Bool) : (s.setPend k b).adc2 = s.adc2 := rfl
@[simp] theorem setPend_agenda (k : Fin 3) (b : Bool) : (s.setPend k b).agenda = s.agenda := rfl
@[simp] theorem setPend_clock (k : Fin 3) (b : Bool) : (s.setPend k b).clock = s.clock := rfl
@[simp] theorem setPend_port (k : Fin 3) (b : Bool) : (s.setPend k b).port = s.port := rfl
@[simp] theorem setPend_cmd (k : Fin 3) (b : Bool) : (s.setPend k b).cmd = s.cmd := rfl

@[simp] theorem setPhase_mode (p : PhaseCode) : (s.setPhase p).mode = s.mode := rfl
@[simp] theorem setPhase_hys (p : PhaseCode) : (s.setPhase p).hys = s.hys := rfl
@[simp] theorem setPhase_raw0 (p : PhaseCode) : (s.setPhase p).raw0 = s.raw0 := rfl
@[simp] theorem setPhase_raw1 (p : PhaseCode) : (s.setPhase p).raw1 = s.raw1 := rfl
@[simp] theorem setPhase_raw2 (p : PhaseCode) : (s.setPhase p).raw2 = s.raw2 := rfl
@[simp] theorem setPhase_flags (p : PhaseCode) : (s.setPhase p).flags = s.flags := rfl
@[simp] theorem setPhase_pend (p : PhaseCode) : (s.setPhase p).pend = s.pend := rfl
@[simp] theorem setPhase_phase (p : PhaseCode) : (s.setPhase p).phase = p := rfl
@[simp] theorem setPhase_htmr (p : PhaseCode) : (s.setPhase p).htmr = s.htmr := rfl
@[simp] theorem setPhase_hcmp (p : PhaseCode) : (s.setPhase p).hcmp = s.hcmp := rfl
@[simp] theorem setPhase_hcon (p : PhaseCode) : (s.setPhase p).hcon = s.hcon := rfl
@[simp] theorem setPhase_cduty (p : PhaseCode) : (s.setPhase p).cduty = s.cduty := rfl
@[simp] theorem setPhase_ccon (p : PhaseCode) : (s.setPhase p).ccon = s.ccon := rfl
@[simp] theorem setPhase_cpwmcnt (p : PhaseCode) : (s.setPhase p).cpwmcnt = s.cpwmcnt := rfl
@[simp] theorem setPhase_btnr (p : PhaseCode) : (s.setPhase p).btnr = s.btnr := rfl
@[simp] theorem setPhase_ifr (p : PhaseCode) : (s.setPhase p).ifr = s.ifr := rfl
@[simp] theorem setPhase_adc0 (p : PhaseCode) : (s.setPhase p).adc0 = s.adc0 := rfl
@[simp] theorem setPhase_adc1 (p : PhaseCode) : (s.setPhase p).adc1 = s.adc1 := rfl
@[simp] theorem setPhase_adc2 (p : PhaseCode) : (s.setPhase p).adc2 = s.adc2 := rfl
@[simp] theorem setPhase_agenda (p : PhaseCode) : (s.setPhase p).agenda = s.agenda := rfl
@[simp] theorem setPhase_clock (p : PhaseCode) : (s.setPhase p).clock = s.clock := rfl
@[simp] theorem setPhase_port (p : PhaseCode) : (s.setPhase p).port = s.port := rfl
@[simp] theorem setPhase_cmd (p : PhaseCode) : (s.setPhase p).cmd = s.cmd := rfl

@[simp] theorem setHtmr_mode (v : Count) : (s.setHtmr v).mode = s.mode := rfl
@[simp] theorem setHtmr_hys (v : Count) : (s.setHtmr v).hys = s.hys := rfl
@[simp] theorem setHtmr_raw0 (v : Count) : (s.setHtmr v).raw0 = s.raw0 := rfl
@[simp] theorem setHtmr_raw1 (v : Count) : (s.setHtmr v).raw1 = s.raw1 := rfl
@[simp] theorem setHtmr_raw2 (v : Count) : (s.setHtmr v).raw2 = s.raw2 := rfl
@[simp] theorem setHtmr_flags (v : Count) : (s.setHtmr v).flags = s.flags := rfl
@[simp] theorem setHtmr_pend (v : Count) : (s.setHtmr v).pend = s.pend := rfl
@[simp] theorem setHtmr_phase (v : Count) : (s.setHtmr v).phase = s.phase := rfl
@[simp] theorem setHtmr_htmr (v : Count) : (s.setHtmr v).htmr = v := rfl
@[simp] theorem setHtmr_hcmp (v : Count) : (s.setHtmr v).hcmp = s.hcmp := rfl
@[simp] theorem setHtmr_hcon (v : Count) : (s.setHtmr v).hcon = s.hcon := rfl
@[simp] theorem setHtmr_cduty (v : Count) : (s.setHtmr v).cduty = s.cduty := rfl
@[simp] theorem setHtmr_ccon (v : Count) : (s.setHtmr v).ccon = s.ccon := rfl
@[simp] theorem setHtmr_cpwmcnt (v : Count) : (s.setHtmr v).cpwmcnt = s.cpwmcnt := rfl
@[simp] theorem setHtmr_btnr (v : Count) : (s.setHtmr v).btnr = s.btnr := rfl
@[simp] theorem setHtmr_ifr (v : Count) : (s.setHtmr v).ifr = s.ifr := rfl
@[simp] theorem setHtmr_adc0 (v : Count) : (s.setHtmr v).adc0 = s.adc0 := rfl
@[simp] theorem setHtmr_adc1 (v : Count) : (s.setHtmr v).adc1 = s.adc1 := rfl
@[simp] theorem setHtmr_adc2 (v : Count) : (s.setHtmr v).adc2 = s.adc2 := rfl
@[simp] theorem setHtmr_agenda (v : Count) : (s.setHtmr v).agenda = s.agenda := rfl
@[simp] theorem setHtmr_clock (v : Count) : (s.setHtmr v).clock = s.clock := rfl
@[simp] theorem setHtmr_port (v : Count) : (s.setHtmr v).port = s.port := rfl
@[simp] theorem setHtmr_cmd (v : Count) : (s.setHtmr v).cmd = s.cmd := rfl

@[simp] theorem setHcmp_mode (v : Count) : (s.setHcmp v).mode = s.mode := rfl
@[simp] theorem setHcmp_hys (v : Count) : (s.setHcmp v).hys = s.hys := rfl
@[simp] theorem setHcmp_raw0 (v : Count) : (s.setHcmp v).raw0 = s.raw0 := rfl
@[simp] theorem setHcmp_raw1 (v : Count) : (s.setHcmp v).raw1 = s.raw1 := rfl
@[simp] theorem setHcmp_raw2 (v : Count) : (s.setHcmp v).raw2 = s.raw2 := rfl
@[simp] theorem setHcmp_flags (v : Count) : (s.setHcmp v).flags = s.flags := rfl
@[simp] theorem setHcmp_pend (v : Count) : (s.setHcmp v).pend = s.pend := rfl
@[simp] theorem setHcmp_phase (v : Count) : (s.setHcmp v).phase = s.phase := rfl
@[simp] theorem setHcmp_htmr (v : Count) : (s.setHcmp v).htmr = s.htmr := rfl
@[simp] theorem setHcmp_hcmp (v : Count) : (s.setHcmp v).hcmp = v := rfl
@[simp] theorem setHcmp_hcon (v : Count) : (s.setHcmp v).hcon = s.hcon := rfl
@[simp] theorem setHcmp_cduty (v : Count) : (s.setHcmp v).cduty = s.cduty := rfl
@[simp] theorem setHcmp_ccon (v : Count) : (s.setHcmp v).ccon = s.ccon := rfl
@[simp] theorem setHcmp_cpwmcnt (v : Count) : (s.setHcmp v).cpwmcnt = s.cpwmcnt := rfl
@[simp] theorem setHcmp_btnr (v : Count) : (s.setHcmp v).btnr = s.btnr := rfl
@[simp] theorem setHcmp_ifr (v : Count) : (s.setHcmp v).ifr = s.ifr := rfl
@[simp] theorem setHcmp_adc0 (v : Count) : (s.setHcmp v).adc0 = s.adc0 := rfl
@[simp] theorem setHcmp_adc1 (v : Count) : (s.setHcmp v).adc1 = s.adc1 := rfl
@[simp] theorem setHcmp_adc2 (v : Count) : (s.setHcmp v).adc2 = s.adc2 := rfl
@[simp] theorem setHcmp_agenda (v : Count) : (s.setHcmp v).agenda = s.agenda := rfl
@[simp] theorem setHcmp_clock (v : Count) : (s.setHcmp v).clock = s.clock := rfl
@[simp] theorem setHcmp_port (v : Count) : (s.setHcmp v).port = s.port := rfl
@[simp] theorem setHcmp_cmd (v : Count) : (s.setHcmp v).cmd = s.cmd := rfl

@[simp] theorem setHie_mode (b : Bool) : (s.setHie b).mode = s.mode := rfl
@[simp] theorem setHie_hys (b : Bool) : (s.setHie b).hys = s.hys := rfl
@[simp] theorem setHie_raw0 (b : Bool) : (s.setHie b).raw0 = s.raw0 := rfl
@[simp] theorem setHie_raw1 (b : Bool) : (s.setHie b).raw1 = s.raw1 := rfl
@[simp] theorem setHie_raw2 (b : Bool) : (s.setHie b).raw2 = s.raw2 := rfl
@[simp] theorem setHie_flags (b : Bool) : (s.setHie b).flags = s.flags := rfl
@[simp] theorem setHie_pend (b : Bool) : (s.setHie b).pend = s.pend := rfl
@[simp] theorem setHie_phase (b : Bool) : (s.setHie b).phase = s.phase := rfl
@[simp] theorem setHie_htmr (b : Bool) : (s.setHie b).htmr = s.htmr := rfl
@[simp] theorem setHie_hcmp (b : Bool) : (s.setHie b).hcmp = s.hcmp := rfl
@[simp] theorem setHie_hcon (b : Bool) : (s.setHie b).hcon = setBit s.hcon 0 b := rfl
@[simp] theorem setHie_cduty (b : Bool) : (s.setHie b).cduty = s.cduty := rfl
@[simp] theorem setHie_ccon (b : Bool) : (s.setHie b).ccon = s.ccon := rfl
@[simp] theorem setHie_cpwmcnt (b : Bool) : (s.setHie b).cpwmcnt = s.cpwmcnt := rfl
@[simp] theorem setHie_btnr (b : Bool) : (s.setHie b).btnr = s.btnr := rfl
@[simp] theorem setHie_ifr (b : Bool) : (s.setHie b).ifr = s.ifr := rfl
@[simp] theorem setHie_adc0 (b : Bool) : (s.setHie b).adc0 = s.adc0 := rfl
@[simp] theorem setHie_adc1 (b : Bool) : (s.setHie b).adc1 = s.adc1 := rfl
@[simp] theorem setHie_adc2 (b : Bool) : (s.setHie b).adc2 = s.adc2 := rfl
@[simp] theorem setHie_agenda (b : Bool) : (s.setHie b).agenda = s.agenda := rfl
@[simp] theorem setHie_clock (b : Bool) : (s.setHie b).clock = s.clock := rfl
@[simp] theorem setHie_port (b : Bool) : (s.setHie b).port = s.port := rfl
@[simp] theorem setHie_cmd (b : Bool) : (s.setHie b).cmd = s.cmd := rfl

@[simp] theorem setHeatOut_mode (b : Bool) : (s.setHeatOut b).mode = s.mode := rfl
@[simp] theorem setHeatOut_hys (b : Bool) : (s.setHeatOut b).hys = s.hys := rfl
@[simp] theorem setHeatOut_raw0 (b : Bool) : (s.setHeatOut b).raw0 = s.raw0 := rfl
@[simp] theorem setHeatOut_raw1 (b : Bool) : (s.setHeatOut b).raw1 = s.raw1 := rfl
@[simp] theorem setHeatOut_raw2 (b : Bool) : (s.setHeatOut b).raw2 = s.raw2 := rfl
@[simp] theorem setHeatOut_flags (b : Bool) : (s.setHeatOut b).flags = s.flags := rfl
@[simp] theorem setHeatOut_pend (b : Bool) : (s.setHeatOut b).pend = s.pend := rfl
@[simp] theorem setHeatOut_phase (b : Bool) : (s.setHeatOut b).phase = s.phase := rfl
@[simp] theorem setHeatOut_htmr (b : Bool) : (s.setHeatOut b).htmr = s.htmr := rfl
@[simp] theorem setHeatOut_hcmp (b : Bool) : (s.setHeatOut b).hcmp = s.hcmp := rfl
@[simp] theorem setHeatOut_hcon (b : Bool) : (s.setHeatOut b).hcon = setBit s.hcon 1 b := rfl
@[simp] theorem setHeatOut_cduty (b : Bool) : (s.setHeatOut b).cduty = s.cduty := rfl
@[simp] theorem setHeatOut_ccon (b : Bool) : (s.setHeatOut b).ccon = s.ccon := rfl
@[simp] theorem setHeatOut_cpwmcnt (b : Bool) : (s.setHeatOut b).cpwmcnt = s.cpwmcnt := rfl
@[simp] theorem setHeatOut_btnr (b : Bool) : (s.setHeatOut b).btnr = s.btnr := rfl
@[simp] theorem setHeatOut_ifr (b : Bool) : (s.setHeatOut b).ifr = s.ifr := rfl
@[simp] theorem setHeatOut_adc0 (b : Bool) : (s.setHeatOut b).adc0 = s.adc0 := rfl
@[simp] theorem setHeatOut_adc1 (b : Bool) : (s.setHeatOut b).adc1 = s.adc1 := rfl
@[simp] theorem setHeatOut_adc2 (b : Bool) : (s.setHeatOut b).adc2 = s.adc2 := rfl
@[simp] theorem setHeatOut_agenda (b : Bool) : (s.setHeatOut b).agenda = s.agenda := rfl
@[simp] theorem setHeatOut_clock (b : Bool) : (s.setHeatOut b).clock = s.clock := rfl
@[simp] theorem setHeatOut_port (b : Bool) : (s.setHeatOut b).port = s.port := rfl
@[simp] theorem setHeatOut_cmd (b : Bool) : (s.setHeatOut b).cmd = s.cmd := rfl

@[simp] theorem setCduty_mode (v : Sample) : (s.setCduty v).mode = s.mode := rfl
@[simp] theorem setCduty_hys (v : Sample) : (s.setCduty v).hys = s.hys := rfl
@[simp] theorem setCduty_raw0 (v : Sample) : (s.setCduty v).raw0 = s.raw0 := rfl
@[simp] theorem setCduty_raw1 (v : Sample) : (s.setCduty v).raw1 = s.raw1 := rfl
@[simp] theorem setCduty_raw2 (v : Sample) : (s.setCduty v).raw2 = s.raw2 := rfl
@[simp] theorem setCduty_flags (v : Sample) : (s.setCduty v).flags = s.flags := rfl
@[simp] theorem setCduty_pend (v : Sample) : (s.setCduty v).pend = s.pend := rfl
@[simp] theorem setCduty_phase (v : Sample) : (s.setCduty v).phase = s.phase := rfl
@[simp] theorem setCduty_htmr (v : Sample) : (s.setCduty v).htmr = s.htmr := rfl
@[simp] theorem setCduty_hcmp (v : Sample) : (s.setCduty v).hcmp = s.hcmp := rfl
@[simp] theorem setCduty_hcon (v : Sample) : (s.setCduty v).hcon = s.hcon := rfl
@[simp] theorem setCduty_cduty (v : Sample) : (s.setCduty v).cduty = v := rfl
@[simp] theorem setCduty_ccon (v : Sample) : (s.setCduty v).ccon = s.ccon := rfl
@[simp] theorem setCduty_cpwmcnt (v : Sample) : (s.setCduty v).cpwmcnt = s.cpwmcnt := rfl
@[simp] theorem setCduty_btnr (v : Sample) : (s.setCduty v).btnr = s.btnr := rfl
@[simp] theorem setCduty_ifr (v : Sample) : (s.setCduty v).ifr = s.ifr := rfl
@[simp] theorem setCduty_adc0 (v : Sample) : (s.setCduty v).adc0 = s.adc0 := rfl
@[simp] theorem setCduty_adc1 (v : Sample) : (s.setCduty v).adc1 = s.adc1 := rfl
@[simp] theorem setCduty_adc2 (v : Sample) : (s.setCduty v).adc2 = s.adc2 := rfl
@[simp] theorem setCduty_agenda (v : Sample) : (s.setCduty v).agenda = s.agenda := rfl
@[simp] theorem setCduty_clock (v : Sample) : (s.setCduty v).clock = s.clock := rfl
@[simp] theorem setCduty_port (v : Sample) : (s.setCduty v).port = s.port := rfl
@[simp] theorem setCduty_cmd (v : Sample) : (s.setCduty v).cmd = s.cmd := rfl

@[simp] theorem setCpwmen_mode (b : Bool) : (s.setCpwmen b).mode = s.mode := rfl
@[simp] theorem setCpwmen_hys (b : Bool) : (s.setCpwmen b).hys = s.hys := rfl
@[simp] theorem setCpwmen_raw0 (b : Bool) : (s.setCpwmen b).raw0 = s.raw0 := rfl
@[simp] theorem setCpwmen_raw1 (b : Bool) : (s.setCpwmen b).raw1 = s.raw1 := rfl
@[simp] theorem setCpwmen_raw2 (b : Bool) : (s.setCpwmen b).raw2 = s.raw2 := rfl
@[simp] theorem setCpwmen_flags (b : Bool) : (s.setCpwmen b).flags = s.flags := rfl
@[simp] theorem setCpwmen_pend (b : Bool) : (s.setCpwmen b).pend = s.pend := rfl
@[simp] theorem setCpwmen_phase (b : Bool) : (s.setCpwmen b).phase = s.phase := rfl
@[simp] theorem setCpwmen_htmr (b : Bool) : (s.setCpwmen b).htmr = s.htmr := rfl
@[simp] theorem setCpwmen_hcmp (b : Bool) : (s.setCpwmen b).hcmp = s.hcmp := rfl
@[simp] theorem setCpwmen_hcon (b : Bool) : (s.setCpwmen b).hcon = s.hcon := rfl
@[simp] theorem setCpwmen_cduty (b : Bool) : (s.setCpwmen b).cduty = s.cduty := rfl
@[simp] theorem setCpwmen_ccon (b : Bool) : (s.setCpwmen b).ccon = setBit s.ccon 0 b := rfl
@[simp] theorem setCpwmen_cpwmcnt (b : Bool) : (s.setCpwmen b).cpwmcnt = s.cpwmcnt := rfl
@[simp] theorem setCpwmen_btnr (b : Bool) : (s.setCpwmen b).btnr = s.btnr := rfl
@[simp] theorem setCpwmen_ifr (b : Bool) : (s.setCpwmen b).ifr = s.ifr := rfl
@[simp] theorem setCpwmen_adc0 (b : Bool) : (s.setCpwmen b).adc0 = s.adc0 := rfl
@[simp] theorem setCpwmen_adc1 (b : Bool) : (s.setCpwmen b).adc1 = s.adc1 := rfl
@[simp] theorem setCpwmen_adc2 (b : Bool) : (s.setCpwmen b).adc2 = s.adc2 := rfl
@[simp] theorem setCpwmen_agenda (b : Bool) : (s.setCpwmen b).agenda = s.agenda := rfl
@[simp] theorem setCpwmen_clock (b : Bool) : (s.setCpwmen b).clock = s.clock := rfl
@[simp] theorem setCpwmen_port (b : Bool) : (s.setCpwmen b).port = s.port := rfl
@[simp] theorem setCpwmen_cmd (b : Bool) : (s.setCpwmen b).cmd = s.cmd := rfl

@[simp] theorem setCpwmcnt_mode (v : Sample) : (s.setCpwmcnt v).mode = s.mode := rfl
@[simp] theorem setCpwmcnt_hys (v : Sample) : (s.setCpwmcnt v).hys = s.hys := rfl
@[simp] theorem setCpwmcnt_raw0 (v : Sample) : (s.setCpwmcnt v).raw0 = s.raw0 := rfl
@[simp] theorem setCpwmcnt_raw1 (v : Sample) : (s.setCpwmcnt v).raw1 = s.raw1 := rfl
@[simp] theorem setCpwmcnt_raw2 (v : Sample) : (s.setCpwmcnt v).raw2 = s.raw2 := rfl
@[simp] theorem setCpwmcnt_flags (v : Sample) : (s.setCpwmcnt v).flags = s.flags := rfl
@[simp] theorem setCpwmcnt_pend (v : Sample) : (s.setCpwmcnt v).pend = s.pend := rfl
@[simp] theorem setCpwmcnt_phase (v : Sample) : (s.setCpwmcnt v).phase = s.phase := rfl
@[simp] theorem setCpwmcnt_htmr (v : Sample) : (s.setCpwmcnt v).htmr = s.htmr := rfl
@[simp] theorem setCpwmcnt_hcmp (v : Sample) : (s.setCpwmcnt v).hcmp = s.hcmp := rfl
@[simp] theorem setCpwmcnt_hcon (v : Sample) : (s.setCpwmcnt v).hcon = s.hcon := rfl
@[simp] theorem setCpwmcnt_cduty (v : Sample) : (s.setCpwmcnt v).cduty = s.cduty := rfl
@[simp] theorem setCpwmcnt_ccon (v : Sample) : (s.setCpwmcnt v).ccon = s.ccon := rfl
@[simp] theorem setCpwmcnt_cpwmcnt (v : Sample) : (s.setCpwmcnt v).cpwmcnt = v := rfl
@[simp] theorem setCpwmcnt_btnr (v : Sample) : (s.setCpwmcnt v).btnr = s.btnr := rfl
@[simp] theorem setCpwmcnt_ifr (v : Sample) : (s.setCpwmcnt v).ifr = s.ifr := rfl
@[simp] theorem setCpwmcnt_adc0 (v : Sample) : (s.setCpwmcnt v).adc0 = s.adc0 := rfl
@[simp] theorem setCpwmcnt_adc1 (v : Sample) : (s.setCpwmcnt v).adc1 = s.adc1 := rfl
@[simp] theorem setCpwmcnt_adc2 (v : Sample) : (s.setCpwmcnt v).adc2 = s.adc2 := rfl
@[simp] theorem setCpwmcnt_agenda (v : Sample) : (s.setCpwmcnt v).agenda = s.agenda := rfl
@[simp] theorem setCpwmcnt_clock (v : Sample) : (s.setCpwmcnt v).clock = s.clock := rfl
@[simp] theorem setCpwmcnt_port (v : Sample) : (s.setCpwmcnt v).port = s.port := rfl
@[simp] theorem setCpwmcnt_cmd (v : Sample) : (s.setCpwmcnt v).cmd = s.cmd := rfl

@[simp] theorem setBtn_mode (k : Fin 3) (b : Bool) : (s.setBtn k b).mode = s.mode := rfl
@[simp] theorem setBtn_hys (k : Fin 3) (b : Bool) : (s.setBtn k b).hys = s.hys := rfl
@[simp] theorem setBtn_raw0 (k : Fin 3) (b : Bool) : (s.setBtn k b).raw0 = s.raw0 := rfl
@[simp] theorem setBtn_raw1 (k : Fin 3) (b : Bool) : (s.setBtn k b).raw1 = s.raw1 := rfl
@[simp] theorem setBtn_raw2 (k : Fin 3) (b : Bool) : (s.setBtn k b).raw2 = s.raw2 := rfl
@[simp] theorem setBtn_flags (k : Fin 3) (b : Bool) : (s.setBtn k b).flags = s.flags := rfl
@[simp] theorem setBtn_pend (k : Fin 3) (b : Bool) : (s.setBtn k b).pend = s.pend := rfl
@[simp] theorem setBtn_phase (k : Fin 3) (b : Bool) : (s.setBtn k b).phase = s.phase := rfl
@[simp] theorem setBtn_htmr (k : Fin 3) (b : Bool) : (s.setBtn k b).htmr = s.htmr := rfl
@[simp] theorem setBtn_hcmp (k : Fin 3) (b : Bool) : (s.setBtn k b).hcmp = s.hcmp := rfl
@[simp] theorem setBtn_hcon (k : Fin 3) (b : Bool) : (s.setBtn k b).hcon = s.hcon := rfl
@[simp] theorem setBtn_cduty (k : Fin 3) (b : Bool) : (s.setBtn k b).cduty = s.cduty := rfl
@[simp] theorem setBtn_ccon (k : Fin 3) (b : Bool) : (s.setBtn k b).ccon = s.ccon := rfl
@[simp] theorem setBtn_cpwmcnt (k : Fin 3) (b : Bool) : (s.setBtn k b).cpwmcnt = s.cpwmcnt := rfl
@[simp] theorem setBtn_btnr (k : Fin 3) (b : Bool) : (s.setBtn k b).btnr = setBit s.btnr k b := rfl
@[simp] theorem setBtn_ifr (k : Fin 3) (b : Bool) : (s.setBtn k b).ifr = s.ifr := rfl
@[simp] theorem setBtn_adc0 (k : Fin 3) (b : Bool) : (s.setBtn k b).adc0 = s.adc0 := rfl
@[simp] theorem setBtn_adc1 (k : Fin 3) (b : Bool) : (s.setBtn k b).adc1 = s.adc1 := rfl
@[simp] theorem setBtn_adc2 (k : Fin 3) (b : Bool) : (s.setBtn k b).adc2 = s.adc2 := rfl
@[simp] theorem setBtn_agenda (k : Fin 3) (b : Bool) : (s.setBtn k b).agenda = s.agenda := rfl
@[simp] theorem setBtn_clock (k : Fin 3) (b : Bool) : (s.setBtn k b).clock = s.clock := rfl
@[simp] theorem setBtn_port (k : Fin 3) (b : Bool) : (s.setBtn k b).port = s.port := rfl
@[simp] theorem setBtn_cmd (k : Fin 3) (b : Bool) : (s.setBtn k b).cmd = s.cmd := rfl

@[simp] theorem setLatch_mode (n : Fin 5) (b : Bool) : (s.setLatch n b).mode = s.mode := rfl
@[simp] theorem setLatch_hys (n : Fin 5) (b : Bool) : (s.setLatch n b).hys = s.hys := rfl
@[simp] theorem setLatch_raw0 (n : Fin 5) (b : Bool) : (s.setLatch n b).raw0 = s.raw0 := rfl
@[simp] theorem setLatch_raw1 (n : Fin 5) (b : Bool) : (s.setLatch n b).raw1 = s.raw1 := rfl
@[simp] theorem setLatch_raw2 (n : Fin 5) (b : Bool) : (s.setLatch n b).raw2 = s.raw2 := rfl
@[simp] theorem setLatch_flags (n : Fin 5) (b : Bool) : (s.setLatch n b).flags = s.flags := rfl
@[simp] theorem setLatch_pend (n : Fin 5) (b : Bool) : (s.setLatch n b).pend = s.pend := rfl
@[simp] theorem setLatch_phase (n : Fin 5) (b : Bool) : (s.setLatch n b).phase = s.phase := rfl
@[simp] theorem setLatch_htmr (n : Fin 5) (b : Bool) : (s.setLatch n b).htmr = s.htmr := rfl
@[simp] theorem setLatch_hcmp (n : Fin 5) (b : Bool) : (s.setLatch n b).hcmp = s.hcmp := rfl
@[simp] theorem setLatch_hcon (n : Fin 5) (b : Bool) : (s.setLatch n b).hcon = s.hcon := rfl
@[simp] theorem setLatch_cduty (n : Fin 5) (b : Bool) : (s.setLatch n b).cduty = s.cduty := rfl
@[simp] theorem setLatch_ccon (n : Fin 5) (b : Bool) : (s.setLatch n b).ccon = s.ccon := rfl
@[simp] theorem setLatch_cpwmcnt (n : Fin 5) (b : Bool) : (s.setLatch n b).cpwmcnt = s.cpwmcnt := rfl
@[simp] theorem setLatch_btnr (n : Fin 5) (b : Bool) : (s.setLatch n b).btnr = s.btnr := rfl
@[simp] theorem setLatch_ifr (n : Fin 5) (b : Bool) : (s.setLatch n b).ifr = setBit s.ifr n b := rfl
@[simp] theorem setLatch_adc0 (n : Fin 5) (b : Bool) : (s.setLatch n b).adc0 = s.adc0 := rfl
@[simp] theorem setLatch_adc1 (n : Fin 5) (b : Bool) : (s.setLatch n b).adc1 = s.adc1 := rfl
@[simp] theorem setLatch_adc2 (n : Fin 5) (b : Bool) : (s.setLatch n b).adc2 = s.adc2 := rfl
@[simp] theorem setLatch_agenda (n : Fin 5) (b : Bool) : (s.setLatch n b).agenda = s.agenda := rfl
@[simp] theorem setLatch_clock (n : Fin 5) (b : Bool) : (s.setLatch n b).clock = s.clock := rfl
@[simp] theorem setLatch_port (n : Fin 5) (b : Bool) : (s.setLatch n b).port = s.port := rfl
@[simp] theorem setLatch_cmd (n : Fin 5) (b : Bool) : (s.setLatch n b).cmd = s.cmd := rfl

@[simp] theorem setAdc_mode (k : Fin 3) (v : Sample) : (s.setAdc k v).mode = s.mode := rfl
@[simp] theorem setAdc_hys (k : Fin 3) (v : Sample) : (s.setAdc k v).hys = s.hys := rfl
@[simp] theorem setAdc_raw0 (k : Fin 3) (v : Sample) : (s.setAdc k v).raw0 = s.raw0 := rfl
@[simp] theorem setAdc_raw1 (k : Fin 3) (v : Sample) : (s.setAdc k v).raw1 = s.raw1 := rfl
@[simp] theorem setAdc_raw2 (k : Fin 3) (v : Sample) : (s.setAdc k v).raw2 = s.raw2 := rfl
@[simp] theorem setAdc_flags (k : Fin 3) (v : Sample) : (s.setAdc k v).flags = s.flags := rfl
@[simp] theorem setAdc_pend (k : Fin 3) (v : Sample) : (s.setAdc k v).pend = s.pend := rfl
@[simp] theorem setAdc_phase (k : Fin 3) (v : Sample) : (s.setAdc k v).phase = s.phase := rfl
@[simp] theorem setAdc_htmr (k : Fin 3) (v : Sample) : (s.setAdc k v).htmr = s.htmr := rfl
@[simp] theorem setAdc_hcmp (k : Fin 3) (v : Sample) : (s.setAdc k v).hcmp = s.hcmp := rfl
@[simp] theorem setAdc_hcon (k : Fin 3) (v : Sample) : (s.setAdc k v).hcon = s.hcon := rfl
@[simp] theorem setAdc_cduty (k : Fin 3) (v : Sample) : (s.setAdc k v).cduty = s.cduty := rfl
@[simp] theorem setAdc_ccon (k : Fin 3) (v : Sample) : (s.setAdc k v).ccon = s.ccon := rfl
@[simp] theorem setAdc_cpwmcnt (k : Fin 3) (v : Sample) : (s.setAdc k v).cpwmcnt = s.cpwmcnt := rfl
@[simp] theorem setAdc_btnr (k : Fin 3) (v : Sample) : (s.setAdc k v).btnr = s.btnr := rfl
@[simp] theorem setAdc_ifr (k : Fin 3) (v : Sample) : (s.setAdc k v).ifr = s.ifr := rfl
@[simp] theorem setAdc_adc0 (k : Fin 3) (v : Sample) : (s.setAdc k v).adc0 = if k = 0 then v else s.adc0 := rfl
@[simp] theorem setAdc_adc1 (k : Fin 3) (v : Sample) : (s.setAdc k v).adc1 = if k = 1 then v else s.adc1 := rfl
@[simp] theorem setAdc_adc2 (k : Fin 3) (v : Sample) : (s.setAdc k v).adc2 = if k = 2 then v else s.adc2 := rfl
@[simp] theorem setAdc_agenda (k : Fin 3) (v : Sample) : (s.setAdc k v).agenda = s.agenda := rfl
@[simp] theorem setAdc_clock (k : Fin 3) (v : Sample) : (s.setAdc k v).clock = s.clock := rfl
@[simp] theorem setAdc_port (k : Fin 3) (v : Sample) : (s.setAdc k v).port = s.port := rfl
@[simp] theorem setAdc_cmd (k : Fin 3) (v : Sample) : (s.setAdc k v).cmd = s.cmd := rfl

@[simp] theorem issue_mode (e : PortEvent) : (s.issue e).mode = s.mode := rfl
@[simp] theorem issue_hys (e : PortEvent) : (s.issue e).hys = s.hys := rfl
@[simp] theorem issue_raw0 (e : PortEvent) : (s.issue e).raw0 = s.raw0 := rfl
@[simp] theorem issue_raw1 (e : PortEvent) : (s.issue e).raw1 = s.raw1 := rfl
@[simp] theorem issue_raw2 (e : PortEvent) : (s.issue e).raw2 = s.raw2 := rfl
@[simp] theorem issue_flags (e : PortEvent) : (s.issue e).flags = s.flags := rfl
@[simp] theorem issue_pend (e : PortEvent) : (s.issue e).pend = s.pend := rfl
@[simp] theorem issue_phase (e : PortEvent) : (s.issue e).phase = s.phase := rfl
@[simp] theorem issue_htmr (e : PortEvent) : (s.issue e).htmr = s.htmr := rfl
@[simp] theorem issue_hcmp (e : PortEvent) : (s.issue e).hcmp = s.hcmp := rfl
@[simp] theorem issue_hcon (e : PortEvent) : (s.issue e).hcon = s.hcon := rfl
@[simp] theorem issue_cduty (e : PortEvent) : (s.issue e).cduty = s.cduty := rfl
@[simp] theorem issue_ccon (e : PortEvent) : (s.issue e).ccon = s.ccon := rfl
@[simp] theorem issue_cpwmcnt (e : PortEvent) : (s.issue e).cpwmcnt = s.cpwmcnt := rfl
@[simp] theorem issue_btnr (e : PortEvent) : (s.issue e).btnr = s.btnr := rfl
@[simp] theorem issue_ifr (e : PortEvent) : (s.issue e).ifr = s.ifr := rfl
@[simp] theorem issue_adc0 (e : PortEvent) : (s.issue e).adc0 = s.adc0 := rfl
@[simp] theorem issue_adc1 (e : PortEvent) : (s.issue e).adc1 = s.adc1 := rfl
@[simp] theorem issue_adc2 (e : PortEvent) : (s.issue e).adc2 = s.adc2 := rfl
@[simp] theorem issue_agenda (e : PortEvent) : (s.issue e).agenda = s.agenda := rfl
@[simp] theorem issue_clock (e : PortEvent) : (s.issue e).clock = s.clock := rfl
@[simp] theorem issue_port (e : PortEvent) : (s.issue e).port = s.port ++ [e] := rfl
@[simp] theorem issue_cmd (e : PortEvent) : (s.issue e).cmd = s.cmd := rfl

end State

variable (s : State)

@[simp] theorem freshTurn_mode : (freshTurn s).mode = s.mode := rfl
@[simp] theorem freshTurn_hys : (freshTurn s).hys = s.hys := rfl
@[simp] theorem freshTurn_raw0 : (freshTurn s).raw0 = s.raw0 := rfl
@[simp] theorem freshTurn_raw1 : (freshTurn s).raw1 = s.raw1 := rfl
@[simp] theorem freshTurn_raw2 : (freshTurn s).raw2 = s.raw2 := rfl
@[simp] theorem freshTurn_flags : (freshTurn s).flags = s.flags := rfl
@[simp] theorem freshTurn_pend : (freshTurn s).pend = s.pend := rfl
@[simp] theorem freshTurn_phase : (freshTurn s).phase = s.phase := rfl
@[simp] theorem freshTurn_htmr : (freshTurn s).htmr = s.htmr := rfl
@[simp] theorem freshTurn_hcmp : (freshTurn s).hcmp = s.hcmp := rfl
@[simp] theorem freshTurn_hcon : (freshTurn s).hcon = s.hcon := rfl
@[simp] theorem freshTurn_cduty : (freshTurn s).cduty = s.cduty := rfl
@[simp] theorem freshTurn_ccon : (freshTurn s).ccon = s.ccon := rfl
@[simp] theorem freshTurn_cpwmcnt : (freshTurn s).cpwmcnt = s.cpwmcnt := rfl
@[simp] theorem freshTurn_btnr : (freshTurn s).btnr = s.btnr := rfl
@[simp] theorem freshTurn_ifr : (freshTurn s).ifr = s.ifr := rfl
@[simp] theorem freshTurn_adc0 : (freshTurn s).adc0 = s.adc0 := rfl
@[simp] theorem freshTurn_adc1 : (freshTurn s).adc1 = s.adc1 := rfl
@[simp] theorem freshTurn_adc2 : (freshTurn s).adc2 = s.adc2 := rfl
@[simp] theorem freshTurn_agenda : (freshTurn s).agenda = s.agenda := rfl
@[simp] theorem freshTurn_clock : (freshTurn s).clock = s.clock + 1 := rfl
@[simp] theorem freshTurn_port : (freshTurn s).port = [] := rfl
@[simp] theorem freshTurn_cmd : (freshTurn s).cmd = s.cmd := rfl

@[simp] theorem dropOffer_mode : (dropOffer s).mode = s.mode := rfl
@[simp] theorem dropOffer_hys : (dropOffer s).hys = s.hys := rfl
@[simp] theorem dropOffer_raw0 : (dropOffer s).raw0 = s.raw0 := rfl
@[simp] theorem dropOffer_raw1 : (dropOffer s).raw1 = s.raw1 := rfl
@[simp] theorem dropOffer_raw2 : (dropOffer s).raw2 = s.raw2 := rfl
@[simp] theorem dropOffer_flags : (dropOffer s).flags = s.flags := rfl
@[simp] theorem dropOffer_pend : (dropOffer s).pend = s.pend := rfl
@[simp] theorem dropOffer_phase : (dropOffer s).phase = s.phase := rfl
@[simp] theorem dropOffer_htmr : (dropOffer s).htmr = s.htmr := rfl
@[simp] theorem dropOffer_hcmp : (dropOffer s).hcmp = s.hcmp := rfl
@[simp] theorem dropOffer_hcon : (dropOffer s).hcon = s.hcon := rfl
@[simp] theorem dropOffer_cduty : (dropOffer s).cduty = s.cduty := rfl
@[simp] theorem dropOffer_ccon : (dropOffer s).ccon = s.ccon := rfl
@[simp] theorem dropOffer_cpwmcnt : (dropOffer s).cpwmcnt = s.cpwmcnt := rfl
@[simp] theorem dropOffer_btnr : (dropOffer s).btnr = s.btnr := rfl
@[simp] theorem dropOffer_ifr : (dropOffer s).ifr = s.ifr := rfl
@[simp] theorem dropOffer_adc0 : (dropOffer s).adc0 = s.adc0 := rfl
@[simp] theorem dropOffer_adc1 : (dropOffer s).adc1 = s.adc1 := rfl
@[simp] theorem dropOffer_adc2 : (dropOffer s).adc2 = s.adc2 := rfl
@[simp] theorem dropOffer_agenda : (dropOffer s).agenda = s.agenda.tail := rfl
@[simp] theorem dropOffer_clock : (dropOffer s).clock = s.clock := rfl
@[simp] theorem dropOffer_port : (dropOffer s).port = s.port := rfl
@[simp] theorem dropOffer_cmd : (dropOffer s).cmd = s.cmd := rfl

end Sys2Proof.Machine
end

