-- ==== Sys2Proof/Laws/Ops.lean ====
section
/-! SUPPORT. What each shared operation does, said once: bits, accessors after updates, the port
operations, the shapes of the phases, the dispatcher. -/

namespace Sys2Proof.Machine

/-! ### Bits -/

theorem getLsbD_setBit {w : Nat} (v : BitVec w) (i j : Nat) (b : Bool) (hi : i < w) :
    (setBit v i b).getLsbD j = if j = i then b else v.getLsbD j := by
  unfold setBit
  by_cases hji : j = i
  · subst hji; cases b <;> simp [hi]
  · have hij : ¬ i = j := fun h => hji h.symm
    by_cases hj : j < w
    · cases b <;> simp [hji, hj]
    · have hv : v.getLsbD j = false := BitVec.getLsbD_of_ge v j (by omega)
      cases b <;> simp [BitVec.getLsbD_twoPow, hji, hij, hv]

@[simp] theorem pendBit_setPend (s : State) (k j : Fin 3) (b : Bool) :
    (s.setPend k b).pendBit j = if j = k then b else s.pendBit j := by
  simp only [State.pendBit, State.setPend_pend, getLsbD_setBit _ _ _ _ k.isLt, Fin.ext_iff]

@[simp] theorem btn_setBtn (s : State) (k j : Fin 3) (b : Bool) :
    (s.setBtn k b).btn j = if j = k then b else s.btn j := by
  simp only [State.btn, State.setBtn_btnr, getLsbD_setBit _ _ _ _ k.isLt, Fin.ext_iff]

@[simp] theorem latch_setLatch (s : State) (n m : Fin 5) (b : Bool) :
    (s.setLatch n b).latch m = if m = n then b else s.latch m := by
  simp only [State.latch, State.setLatch_ifr, getLsbD_setBit _ _ _ _ n.isLt, Fin.ext_iff]

@[simp] theorem hie_setHie (s : State) (b : Bool) : (s.setHie b).hie = b :=
  getLsbD_setBit s.hcon 0 0 b (by decide)

@[simp] theorem heatOut_setHie (s : State) (b : Bool) : (s.setHie b).heatOut = s.heatOut :=
  getLsbD_setBit s.hcon 0 1 b (by decide)

@[simp] theorem heatOut_setHeatOut (s : State) (b : Bool) : (s.setHeatOut b).heatOut = b :=
  getLsbD_setBit s.hcon 1 1 b (by decide)

@[simp] theorem hie_setHeatOut (s : State) (b : Bool) : (s.setHeatOut b).hie = s.hie :=
  getLsbD_setBit s.hcon 1 0 b (by decide)

@[simp] theorem cpwmen_setCpwmen (s : State) (b : Bool) : (s.setCpwmen b).cpwmen = b :=
  getLsbD_setBit s.ccon 0 0 b (by decide)

/-! ### The registers a reader depends on -/

theorem hie_congr {s t : State} (h : t.hcon = s.hcon) : t.hie = s.hie := by simp [State.hie, h]

theorem heatOut_congr {s t : State} (h : t.hcon = s.hcon) : t.heatOut = s.heatOut := by
  simp [State.heatOut, h]

theorem cpwmen_congr {s t : State} (h : t.ccon = s.ccon) : t.cpwmen = s.cpwmen := by
  simp [State.cpwmen, h]

theorem latch_congr {s t : State} (h : t.ifr = s.ifr) (n : Fin 5) : t.latch n = s.latch n := by
  simp [State.latch, h]

theorem select_congr {s t : State} (hm : t.mode = s.mode) (hh : t.hys = s.hys) (h0 : t.raw0 = s.raw0)
    (h2 : t.raw2 = s.raw2) : select t = select s := by
  simp [select, hm, hh, h0, h2]

/-! ### The port operations -/

theorem portWdtrefresh_eq (s : State) :
    portWdtrefresh s = { s with port := s.port ++ [.wdtrefresh] } := rfl

theorem portSample_eq (ch : Fin 3) (s : State) :
    portSample ch s = (s.adc ch, { s with port := s.port ++ [.sample ch (s.adc ch)] }) := rfl

theorem portBtnstate_eq (id : Fin 3) (s : State) :
    portBtnstate id s =
      (!s.btnr.getLsbD id, { s with port := s.port ++ [.btnstate id (!s.btnr.getLsbD id)] }) := rfl

theorem portSethcmp_eq (v : Count) (s : State) :
    portSethcmp v s = { s with hcmp := v, port := s.port ++ [.sethcmp v] } := rfl

theorem portRsthtmr_eq (s : State) :
    portRsthtmr s = { s with htmr := 0#16, port := s.port ++ [.rsthtmr] } := rfl

theorem portSetcduty_eq (v : Sample) (s : State) :
    portSetcduty v s = { s with cduty := v, port := s.port ++ [.setcduty v] } := rfl

theorem portEncpwm_eq (b : BitVec 1) (s : State) :
    portEncpwm b s = { s with ccon := b, port := s.port ++ [.encpwm b] } := by
  have h : ∀ (b v : BitVec 1), setBit v 0 (b == 1#1) = b := by decide
  simp [portEncpwm, State.setCpwmen, State.issue, h]

theorem portSethout_eq (b : BitVec 1) (s : State) :
    portSethout b s =
      { s with hcon := (s.hcon &&& 0b01#2) ||| (b.setWidth 2 <<< 1), port := s.port ++ [.sethout b] } := by
  have h : ∀ (b : BitVec 1) (v : BitVec 2),
      setBit v 1 (b == 1#1) = (v &&& 0b01#2) ||| (b.setWidth 2 <<< 1) := by decide
  simp [portSethout, State.setHeatOut, State.issue, h]

theorem portEnhint_zero (s : State) :
    portEnhint 0#1 s =
      { s with hcon := 0b00#2, ifr := s.ifr &&& 0b11100#5, port := s.port ++ [.enhint 0#1] } := by
  have h : ∀ v : BitVec 2, setBit (setBit v 0 false) 1 false = 0b00#2 := by decide
  have g : ∀ v : BitVec 5, setBit (setBit v 0 false) 1 false = v &&& 0b11100#5 := by decide
  simp [portEnhint, State.setHie, State.setHeatOut, State.setLatch, State.issue, h, g]

theorem portEnhint_one (s : State) :
    portEnhint 1#1 s =
      { s with hcon := s.hcon ||| 0b01#2, port := s.port ++ [.enhint 1#1] } := by
  have h : ∀ v : BitVec 2, setBit v 0 true = v ||| 0b01#2 := by decide
  simp [portEnhint, State.setHie, State.issue, h]

theorem portDispline_eq (r : BitVec 2) (s : State) :
    portDispline r s = { s with port := s.port ++ [.displine r s.frame] } := rfl

/-! ### The dispatcher -/

/-- Either nothing is requested, or the served source is requested and no lower one is (R317). -/
theorem pendingSource_cases (s : State) :
    (pendingSource s = none ∧ ∀ n, requested s n = false) ∨
    (∃ n : Fin 5, pendingSource s = some (BitVec.ofNat 3 n) ∧ requested s n = true ∧
      ∀ m : Fin 5, m < n → requested s m = false) := by
  unfold pendingSource
  by_cases h0 : requested s 0 = true
  · exact .inr ⟨0, by simp [h0], h0, fun m hm => absurd hm (Nat.not_lt_zero _)⟩
  by_cases h1 : requested s 1 = true
  · exact .inr ⟨1, by simp [h0, h1], h1, fun m hm => by
      match m, hm with
      | 0, _ => simpa using h0⟩
  by_cases h2 : requested s 2 = true
  · exact .inr ⟨2, by simp [h0, h1, h2], h2, fun m hm => by
      match m, hm with
      | 0, _ => simpa using h0
      | 1, _ => simpa using h1⟩
  by_cases h3 : requested s 3 = true
  · exact .inr ⟨3, by simp [h0, h1, h2, h3], h3, fun m hm => by
      match m, hm with
      | 0, _ => simpa using h0
      | 1, _ => simpa using h1
      | 2, _ => simpa using h2⟩
  by_cases h4 : requested s 4 = true
  · exact .inr ⟨4, by simp [h0, h1, h2, h3, h4], h4, fun m hm => by
      match m, hm with
      | 0, _ => simpa using h0
      | 1, _ => simpa using h1
      | 2, _ => simpa using h2
      | 3, _ => simpa using h3⟩
  · exact .inl ⟨by simp [h0, h1, h2, h3, h4], fun n => by
      match n with
      | 0 => simpa using h0
      | 1 => simpa using h1
      | 2 => simpa using h2
      | 3 => simpa using h3
      | 4 => simpa using h4⟩

end Sys2Proof.Machine
end

