-- ==== Sys2Proof/Laws/PerInstr.lean ====
section
/-! SUPPORT. Per-instruction families: what holds of every operation as a term. -/

namespace Sys2Proof.Laws

/-- The word of a well-formed operation lies in the opcode table's row of that operation: its `match`
and `mask` select it (R102, R108, R110). -/
def OpcodeRow.Statement (i : Instr) : Prop :=
  i.wellFormed = true → (opcodeRow i).selects (encode i) = true

/-- A row selects a command word if no operand bit lies under the row's mask. -/
theorem selects_cmdWord (op : BitVec 4) (arg : BitVec 16) (mask value : BitVec 20)
    (h : (op ++ arg) &&& mask = value) : (Row.cw mask value).selects (cmdWord op arg) = true := by
  simp [Row.selects, cmdWord, h]

theorem OpcodeRow.wdtrefresh : OpcodeRow.Statement .wdtrefresh := fun _ => by decide

theorem OpcodeRow.sample (ch : BitVec 2) : OpcodeRow.Statement (.sample ch) := by
  revert ch; unfold OpcodeRow.Statement; decide

theorem OpcodeRow.btnstate (id : BitVec 2) : OpcodeRow.Statement (.btnstate id) := by
  revert id; unfold OpcodeRow.Statement; decide

theorem OpcodeRow.sethcmp (v : Count) : OpcodeRow.Statement (.sethcmp v) := by
  intro _
  refine selects_cmdWord _ _ _ _ (BitVec.eq_of_getLsbD_eq fun i hi => ?_)
  rw [BitVec.getLsbD_and, BitVec.getLsbD_append]
  interval_cases i <;> simp

theorem OpcodeRow.rsthtmr : OpcodeRow.Statement .rsthtmr := fun _ => by decide

theorem OpcodeRow.enhint (b : BitVec 1) : OpcodeRow.Statement (.enhint b) := by
  revert b; unfold OpcodeRow.Statement; decide

theorem OpcodeRow.sethout (b : BitVec 1) : OpcodeRow.Statement (.sethout b) := by
  revert b; unfold OpcodeRow.Statement; decide

theorem OpcodeRow.setcduty (v : Sample) : OpcodeRow.Statement (.setcduty v) := by
  intro _
  refine selects_cmdWord _ _ _ _ (BitVec.eq_of_getLsbD_eq fun i hi => ?_)
  rw [BitVec.getLsbD_and, BitVec.getLsbD_append, BitVec.getLsbD_setWidth]
  interval_cases i <;> simp

theorem OpcodeRow.encpwm (b : BitVec 1) : OpcodeRow.Statement (.encpwm b) := by
  revert b; unfold OpcodeRow.Statement; decide

theorem OpcodeRow.displine (r : BitVec 2) : OpcodeRow.Statement (.displine r) := by
  revert r; unfold OpcodeRow.Statement; decide

theorem OpcodeRow.irqTmrovf : OpcodeRow.Statement .irqTmrovf := fun _ => by decide

theorem OpcodeRow.irqCmpmatch : OpcodeRow.Statement .irqCmpmatch := fun _ => by decide

theorem OpcodeRow.irqBtn0edge : OpcodeRow.Statement .irqBtn0edge := fun _ => by decide

theorem OpcodeRow.irqBtn1edge : OpcodeRow.Statement .irqBtn1edge := fun _ => by decide

theorem OpcodeRow.irqBtn2edge : OpcodeRow.Statement .irqBtn2edge := fun _ => by decide

theorem OpcodeRow.seqSWdt : OpcodeRow.Statement .seqSWdt := fun _ => by decide

theorem OpcodeRow.seqSSamp0 : OpcodeRow.Statement .seqSSamp0 := fun _ => by decide

theorem OpcodeRow.seqSSamp1 : OpcodeRow.Statement .seqSSamp1 := fun _ => by decide

theorem OpcodeRow.seqSSamp2 : OpcodeRow.Statement .seqSSamp2 := fun _ => by decide

theorem OpcodeRow.seqSEv0Check : OpcodeRow.Statement .seqSEv0Check := fun _ => by decide

theorem OpcodeRow.seqSEv0Settle : OpcodeRow.Statement .seqSEv0Settle := fun _ => by decide

theorem OpcodeRow.seqSEv0Confirm : OpcodeRow.Statement .seqSEv0Confirm := fun _ => by decide

theorem OpcodeRow.seqSEv0Waitrel : OpcodeRow.Statement .seqSEv0Waitrel := fun _ => by decide

theorem OpcodeRow.seqSEv0Relsettle : OpcodeRow.Statement .seqSEv0Relsettle := fun _ => by decide

theorem OpcodeRow.seqSEv1Check : OpcodeRow.Statement .seqSEv1Check := fun _ => by decide

theorem OpcodeRow.seqSEv1Settle : OpcodeRow.Statement .seqSEv1Settle := fun _ => by decide

theorem OpcodeRow.seqSEv1Confirm : OpcodeRow.Statement .seqSEv1Confirm := fun _ => by decide

theorem OpcodeRow.seqSEv1Waitrel : OpcodeRow.Statement .seqSEv1Waitrel := fun _ => by decide

theorem OpcodeRow.seqSEv1Relsettle : OpcodeRow.Statement .seqSEv1Relsettle := fun _ => by decide

theorem OpcodeRow.seqSEv2Check : OpcodeRow.Statement .seqSEv2Check := fun _ => by decide

theorem OpcodeRow.seqSEv2Settle : OpcodeRow.Statement .seqSEv2Settle := fun _ => by decide

theorem OpcodeRow.seqSEv2Confirm : OpcodeRow.Statement .seqSEv2Confirm := fun _ => by decide

theorem OpcodeRow.seqSEv2Waitrel : OpcodeRow.Statement .seqSEv2Waitrel := fun _ => by decide

theorem OpcodeRow.seqSEv2Relsettle : OpcodeRow.Statement .seqSEv2Relsettle := fun _ => by decide

theorem OpcodeRow.seqSRender : OpcodeRow.Statement .seqSRender := fun _ => by decide

theorem OpcodeRow.seqSExec0 : OpcodeRow.Statement .seqSExec0 := fun _ => by decide

theorem OpcodeRow.seqSExec1 : OpcodeRow.Statement .seqSExec1 := fun _ => by decide

theorem OpcodeRow.seqSExec2 : OpcodeRow.Statement .seqSExec2 := fun _ => by decide

theorem OpcodeRow.seqSExec3 : OpcodeRow.Statement .seqSExec3 := fun _ => by decide

theorem OpcodeRow.seqSExec4 : OpcodeRow.Statement .seqSExec4 := fun _ => by decide

theorem OpcodeRow.seqSPace : OpcodeRow.Statement .seqSPace := fun _ => by decide

end Sys2Proof.Laws
end

