-- ==== Sys2Proof/Laws/Phases.lean ====
section
/-! SUPPORT. What each shared shape of a phase, a handler or an unencoded step does, said once. -/

namespace Sys2Proof.Machine

theorem refreshThen_eq (next : PhaseCode) (s : State) :
    refreshThen next s = { s with port := s.port ++ [.wdtrefresh], phase := next } := rfl

theorem sampleThen_eq (k : Fin 3) (next : PhaseCode) (s : State) :
    sampleThen k next s =
      { s.setRaw k (s.adc k) with port := s.port ++ [.sample k (s.adc k)], phase := next } := rfl

theorem checkEvent_set (k : Fin 3) (settle next : PhaseCode) (s : State) (h : s.pendBit k = true) :
    checkEvent k settle next s = { s with pend := setBit s.pend k false, phase := settle } := by
  simp [checkEvent, h, State.setPend, State.setPhase]

theorem checkEvent_clear (k : Fin 3) (settle next : PhaseCode) (s : State) (h : s.pendBit k = false) :
    checkEvent k settle next s = { s with phase := next } := by
  simp [checkEvent, h, State.setPhase]

/-- Asserted: BTNSTATE returns 1, the action is performed on the state after the read. -/
theorem confirmEvent_asserted (k : Fin 3) (action : State → State) (waitrel next : PhaseCode) (s : State)
    (h : s.btn k = false) :
    confirmEvent k action waitrel next s =
      (action { s with port := s.port ++ [.btnstate k true] }).setPhase waitrel := by
  simp [confirmEvent, portBtnstate, h, State.issue]

theorem confirmEvent_released (k : Fin 3) (action : State → State) (waitrel next : PhaseCode) (s : State)
    (h : s.btn k = true) :
    confirmEvent k action waitrel next s =
      { s with port := s.port ++ [.btnstate k false], phase := next } := by
  simp [confirmEvent, portBtnstate, h, State.issue, State.setPhase]

theorem waitRelease_released (k : Fin 3) (waitrel relsettle : PhaseCode) (s : State)
    (h : s.btn k = true) :
    waitRelease k waitrel relsettle s =
      { s with port := s.port ++ [.wdtrefresh, .btnstate k false], phase := relsettle } := by
  have h' : (portWdtrefresh s).btn k = true := h
  simp only [waitRelease, portBtnstate, h']
  simp [portWdtrefresh, State.issue, State.setPhase]

theorem waitRelease_held (k : Fin 3) (waitrel relsettle : PhaseCode) (s : State)
    (h : s.btn k = false) :
    waitRelease k waitrel relsettle s =
      { s with port := s.port ++ [.wdtrefresh, .btnstate k true], phase := waitrel } := by
  have h' : (portWdtrefresh s).btn k = false := h
  simp only [waitRelease, portBtnstate, h']
  simp [portWdtrefresh, State.issue, State.setPhase]

theorem renderRows_eq (s : State) :
    renderRows s =
      { s with
        port := s.port ++ [.displine 0#2 s.frame, .displine 1#2 s.frame, .displine 2#2 s.frame,
          .displine 3#2 s.frame] } := by
  simp [renderRows, portDispline, State.issue, State.frame]

theorem serveInterrupt_eq (n : Fin 5) (body : State → State) (s : State) :
    serveInterrupt n body s = { body s with ifr := setBit (body s).ifr n false } := rfl

/-- While HIE = 0 a tick only counts (R181). -/
theorem htick_disabled (s : State) (h : s.hie = false) :
    htick s = { s with htmr := s.htmr + 1#16 } := by
  simp [htick, h, State.setHtmr]

/-- A tick that neither wraps nor matches only counts (R181). -/
theorem htick_quiet (s : State) (h0 : s.htmr + 1#16 ≠ 0#16) (hc : s.htmr + 1#16 ≠ s.hcmp) :
    htick s = { s with htmr := s.htmr + 1#16 } := by
  simp [htick, h0, hc, State.setHtmr]

theorem envBtn_same (k : Fin 3) (v : Bool) (s : State) (h : s.btn k = v) : envBtn k v s = s := by
  simp [envBtn, h]

theorem envBtn_edge (k : Fin 3) (v : Bool) (s : State) (h : s.btn k ≠ v) :
    envBtn k v s =
      { s with btnr := setBit s.btnr k v, ifr := setBit s.ifr (buttonSource k) true } := by
  simp [envBtn, h, State.setBtn, State.setLatch]

/-- Every action but those with RAW[1] operands writes a constant; the words of the four steps. -/
theorem actionSteps_idle_eq_off (s : State) :
    actionStep1 .idle s = actionStep1 .off s ∧ actionStep2 .idle s = actionStep2 .off s ∧
      actionStep3 .idle s = actionStep3 .off s ∧ actionStep4 .idle s = actionStep4 .off s ∧
      actionFlags .idle = actionFlags .off :=
  ⟨rfl, rfl, rfl, rfl, rfl⟩

end Sys2Proof.Machine
end

