-- ==== Sys2Proof/Laws/Step.lean ====
section
/-! SUPPORT. What one step can do, said once: which turn comes next, and what a step that answers a
next state has run. -/

namespace Sys2Proof.Machine

/-- With no command word presented, the next turn is RESET, the handler of the served source, the phase
PHASE holds, or another step without an encoding. -/
theorem nextTurn_cases (s : State) (h : s.cmd = none) :
    (offer s = .other .reset ∧ nextTurn s = .take .reset) ∨
    (offer s ≠ .other .reset ∧ ∃ n, pendingSource s = some n ∧ nextTurn s = .run (.ev n)) ∨
    (offer s = .seq ∧ pendingSource s = none ∧ nextTurn s = .run (.ph s.phase)) ∨
    (∃ a, a ≠ .reset ∧ offer s = .other a ∧ pendingSource s = none ∧ nextTurn s = .take a) := by
  unfold nextTurn
  rw [h]
  cases ho : offer s with
  | seq => cases hp : pendingSource s <;> simp
  | other a => cases a <;> cases hp : pendingSource s <;> simp

/-- A command word presented from outside is the next turn. -/
theorem nextTurn_cmd (s : State) (w : CmdWord) (h : s.cmd = some w) : nextTurn s = .run (.cw w) := by
  simp [nextTurn, h]

/-- A step that answers a next state has executed the operation of its word, or taken a step without
an encoding. -/
theorem step_cases {s t : State} (h : step s = .next t) :
    (∃ w i, nextTurn s = .run w ∧ decode w = .ok i ∧ exec i (beginTurn (.run w) s) = .next t) ∨
    (∃ a, nextTurn s = .take a ∧ t = takeStep a (beginTurn (.take a) s)) := by
  unfold step at h
  split at h
  · rename_i w hw
    split at h
    · rename_i i hi
      exact .inl ⟨w, i, hw, hi, h⟩
    · cases h
  · rename_i a ha
    cases h
    exact .inr ⟨a, ha, rfl⟩

end Sys2Proof.Machine
end

