-- ==== Sys2Proof/Machine/Timing.lean ====
section
/-! DEFINITION. The durations the document gives, as annotations: no rule of the step relation reads
one (R375, R376; log entry 12). -/

namespace Sys2Proof.Machine

/-- The annotated duration of a delay phase in milliseconds: 30 for the settle phases, 50 for the
release-settle phases and the pacing phase, none for the others (R9, R263, R375). -/
def delayMs (p : PhaseCode) : Option Nat :=
  match p.toNat with
  | 5 => some 30
  | 10 => some 30
  | 15 => some 30
  | 8 => some 50
  | 13 => some 50
  | 18 => some 50
  | 25 => some 50
  | _ => none

/-- The heater period in time, `65536 * T_HTICK` (R196). -/
def heaterPeriod : Rat := 65536 * Config.tHtick

/-- The cooler period in time, `1024 * T_CTICK` (R196). -/
def coolerPeriod : Rat := 1024 * Config.tCtick

end Sys2Proof.Machine
end

