-- ==== Sys2Proof/Tests/Slice0.lean ====
section
/-! SUPPORT. The tests: the WellFormed smoke, every decoding from a word written out, one step per
instruction against the vectors of spec/95_test_vectors.md (named TB, TH, TM, TK, TA, TP, TI, TZ there),
and, for every obligation with hypotheses, a state that meets them. -/

namespace Sys2Proof.Tests

open Sys2Proof Sys2Proof.Machine

/-! ### Helpers -/

/-- The next state, if the outcome is one. -/
def next? (o : Host.Outcome State Fault Refusal) : Option State :=
  match o with
  | .next t => some t
  | .fault _ => none
  | .refused _ => none

/-- The refusal, if the outcome is one. -/
def refusal? (o : Host.Outcome State Fault Refusal) : Option Refusal :=
  match o with
  | .next _ => none
  | .fault _ => none
  | .refused r => some r

/-- One step. -/
def step1 (s : State) : Option State := next? (step s)

/-- Why a decoding fails. -/
def reserved? (r : Except Reserved Instr) : Option Reserved :=
  match r with
  | .ok _ => none
  | .error e => some e

/-- The reset state with the sequencer's turn next and PHASE at `p`. -/
def seqAt (p : PhaseCode) : State := { State.reset with agenda := [.seq], phase := p }

/-- The reset state with the turn of `a` next. -/
def turnOf (a : UnencodedStep) : State := { State.reset with agenda := [.other a] }

/-- The words the last step issued. -/
def words (s : State) : List Word := issuedWords s

/-! ### WellFormed: every check refuses an ill-formed term (R114) -/

theorem test_wf_sample_3_refused : (Instr.sample 3#2).wellFormed = false := by decide
theorem test_wf_btnstate_3_refused : (Instr.btnstate 3#2).wellFormed = false := by decide
theorem test_wf_index_2_accepted :
    (Instr.sample 2#2).wellFormed = true ∧ (Instr.btnstate 2#2).wellFormed = true := by decide

/-! ### Decode: one word of each row, written out from R102, R108 and R110 -/

theorem test_decode_cw_wdtrefresh : decode? (.cw 0b0001_0000_0000_0000_0000#20) = some .wdtrefresh := by
  decide
theorem test_decode_cw_sample : decode? (.cw 0b0010_0000_0000_0000_0010#20) = some (.sample 2#2) := by
  decide
theorem test_decode_cw_btnstate : decode? (.cw 0b0011_0000_0000_0000_0001#20) = some (.btnstate 1#2) := by
  decide
/-- 0x41900, SETHCMP 6400 (TK6). -/
theorem test_decode_cw_sethcmp : decode? (.cw 0b0100_0001_1001_0000_0000#20) = some (.sethcmp 6400#16) := by
  decide
theorem test_decode_cw_rsthtmr : decode? (.cw 0b0101_0000_0000_0000_0000#20) = some .rsthtmr := by
  decide
theorem test_decode_cw_enhint : decode? (.cw 0b0110_0000_0000_0000_0001#20) = some (.enhint 1#1) := by
  decide
theorem test_decode_cw_sethout : decode? (.cw 0b0111_0000_0000_0000_0000#20) = some (.sethout 0#1) := by
  decide
/-- 0x80064, SETCDUTY 100 (TK14). -/
theorem test_decode_cw_setcduty : decode? (.cw 0b1000_0000_0000_0110_0100#20) = some (.setcduty 100#10) := by
  decide
theorem test_decode_cw_encpwm : decode? (.cw 0b1001_0000_0000_0000_0001#20) = some (.encpwm 1#1) := by
  decide
theorem test_decode_cw_displine : decode? (.cw 0b1010_0000_0000_0000_0010#20) = some (.displine 2#2) := by
  decide

/-- R108. -/
theorem test_decode_ev :
    decode? (.ev 0b000#3) = some .irqTmrovf ∧ decode? (.ev 0b001#3) = some .irqCmpmatch ∧
    decode? (.ev 0b010#3) = some .irqBtn0edge ∧ decode? (.ev 0b011#3) = some .irqBtn1edge ∧
    decode? (.ev 0b100#3) = some .irqBtn2edge := by decide

/-- R110, the phases that are no event phases. -/
theorem test_decode_ph_plain :
    decode? (.ph 0b00000#5) = some .seqSWdt ∧ decode? (.ph 0b00001#5) = some .seqSSamp0 ∧
    decode? (.ph 0b00010#5) = some .seqSSamp1 ∧ decode? (.ph 0b00011#5) = some .seqSSamp2 ∧
    decode? (.ph 0b10011#5) = some .seqSRender ∧ decode? (.ph 0b10100#5) = some .seqSExec0 ∧
    decode? (.ph 0b10101#5) = some .seqSExec1 ∧ decode? (.ph 0b10110#5) = some .seqSExec2 ∧
    decode? (.ph 0b10111#5) = some .seqSExec3 ∧ decode? (.ph 0b11000#5) = some .seqSExec4 ∧
    decode? (.ph 0b11001#5) = some .seqSPace := by decide

/-- R110, event 0. -/
theorem test_decode_ph_event0 :
    decode? (.ph 0b00100#5) = some .seqSEv0Check ∧ decode? (.ph 0b00101#5) = some .seqSEv0Settle ∧
    decode? (.ph 0b00110#5) = some .seqSEv0Confirm ∧ decode? (.ph 0b00111#5) = some .seqSEv0Waitrel ∧
    decode? (.ph 0b01000#5) = some .seqSEv0Relsettle := by decide

/-- R110, event 1. -/
theorem test_decode_ph_event1 :
    decode? (.ph 0b01001#5) = some .seqSEv1Check ∧ decode? (.ph 0b01010#5) = some .seqSEv1Settle ∧
    decode? (.ph 0b01011#5) = some .seqSEv1Confirm ∧ decode? (.ph 0b01100#5) = some .seqSEv1Waitrel ∧
    decode? (.ph 0b01101#5) = some .seqSEv1Relsettle := by decide

/-- R110, event 2. -/
theorem test_decode_ph_event2 :
    decode? (.ph 0b01110#5) = some .seqSEv2Check ∧ decode? (.ph 0b01111#5) = some .seqSEv2Settle ∧
    decode? (.ph 0b10000#5) = some .seqSEv2Confirm ∧ decode? (.ph 0b10001#5) = some .seqSEv2Waitrel ∧
    decode? (.ph 0b10010#5) = some .seqSEv2Relsettle := by decide

/-- TK19: reserved opcodes. -/
theorem test_decode_reserved_opcodes :
    reserved? (decode (.cw 0x00000#20)) = some (.opcode 0x0#4) ∧
    reserved? (decode (.cw 0xB0000#20)) = some (.opcode 0xB#4) ∧
    reserved? (decode (.cw 0xF1234#20)) = some (.opcode 0xF#4) := by decide

/-- TK20: non-zero unused operand bits. -/
theorem test_decode_reserved_operand_bits :
    reserved? (decode (.cw 0x10001#20)) = some (.operandBits 1#16) ∧
    reserved? (decode (.cw 0x50001#20)) = some (.operandBits 1#16) ∧
    reserved? (decode (.cw 0x60002#20)) = some (.operandBits 2#16) ∧
    reserved? (decode (.cw 0x80400#20)) = some (.operandBits 0x400#16) ∧
    reserved? (decode (.cw 0x90002#20)) = some (.operandBits 2#16) ∧
    reserved? (decode (.cw 0xA0004#20)) = some (.operandBits 4#16) ∧
    reserved? (decode (.cw 0x20007#20)) = some (.operandBits 7#16) := by decide

/-- TK21 and R108, R113: reserved indices, source numbers and phase codes. -/
theorem test_decode_reserved_codes :
    reserved? (decode (.cw 0x20003#20)) = some (.index 3#2) ∧
    reserved? (decode (.cw 0x30003#20)) = some (.index 3#2) ∧
    reserved? (decode (.ev 5#3)) = some (.source 5#3) ∧ reserved? (decode (.ev 7#3)) = some (.source 7#3) ∧
    reserved? (decode (.ph 26#5)) = some (.phase 26#5) ∧ reserved? (decode (.ph 31#5)) = some (.phase 31#5) := by
  decide

/-- The table's bit numbering, widths and their whole bytes (log entry 7). -/
theorem test_decode_table_word :
    decodeTableWord 20 0x41900 = some (.sethcmp 6400#16) ∧ decodeTableWord 24 0x41900 = some (.sethcmp 6400#16) ∧
    decodeTableWord 3 1 = some .irqCmpmatch ∧ decodeTableWord 5 19 = some .seqSRender ∧
    decodeTableWord 8 19 = some .seqSRender ∧ decodeTableWord 24 0x100000 = none ∧
    decodeTableWord 8 32 = none ∧ decodeTableWord 8 26 = none := by decide

/-! ### The placed word is the operation the next step runs -/

theorem test_fetch_command :
    (step1 (State.reset.withFetchWord 24 0x41900)).map (fun t => (t.hcmp, t.cmd)) = some (6400#16, none) := by
  decide
theorem test_fetch_phase :
    (step1 (State.reset.withFetchWord 8 25)).map (fun t => (t.phase, words t)) =
      some (0#5, [.cw 0x10000#20]) := by decide
theorem test_fetch_source :
    (step1 (State.reset.withFetchWord 3 0)).map (fun t => (t.hcon, t.ifr, t.phase)) =
      some (0b11#2, 0#5, 0#5) := by decide
theorem test_fetch_reserved :
    refusal? (step (State.reset.withFetchWord 24 0xB0000)) = some (.reservedWord (.opcode 0xB#4)) ∧
    refusal? (step (State.reset.withFetchWord 8 26)) = some (.reservedWord (.phase 26#5)) := by decide
/-- R113: the sequencer's turn with a reserved code in PHASE. -/
theorem test_step_refuses_reserved_phase :
    refusal? (step (seqAt 30#5)) = some (.reservedWord (.phase 30#5)) := by decide

/-! ### The command port (spec/95_test_vectors.md, Part 2, section 6) -/

/-- A state in which every drive register is non-zero. -/
def busy : State :=
  { State.reset with
    mode := 1#2, hys := 2#2, raw0 := 512#10, raw1 := 100#10, raw2 := 102#10, flags := 0b01#2
    htmr := 1234#16, hcmp := 100#16, hcon := 0b11#2, cduty := 300#10, ccon := 1#1, cpwmcnt := 5#10
    btnr := 0b110#3, adc0 := 11#10, adc1 := 22#10, adc2 := 33#10 }

/-- TK1. -/
theorem test_wdtrefresh :
    (next? (exec .wdtrefresh busy)).map (fun t => (watchdogStrobes t, t.htmr, t.phase)) =
      some (1, 1234#16, 0#5) := by decide
/-- TK2. -/
theorem test_sample :
    (next? (exec (.sample 1#2) busy)).map (fun t => (t.port, t.raw1)) =
      some ([.sample 1 22#10], 100#10) := by decide
theorem test_sample_3_refused :
    refusal? (exec (.sample 3#2) busy) = some (.reservedIndex 3#2) := by decide
/-- TK3, TK4, TK5: 1 means asserted. -/
theorem test_btnstate :
    (next? (exec (.btnstate 0#2) busy)).map (fun t => t.port) = some [.btnstate 0 true] ∧
    (next? (exec (.btnstate 2#2) busy)).map (fun t => t.port) = some [.btnstate 2 false] := by decide
theorem test_btnstate_3_refused :
    refusal? (exec (.btnstate 3#2) busy) = some (.reservedIndex 3#2) := by decide
/-- TK7, TH20: no compare match even if the value equals HTMR. -/
theorem test_sethcmp :
    (next? (exec (.sethcmp 65535#16) busy)).map (fun t => t.hcmp) = some 65535#16 ∧
    (next? (exec (.sethcmp 1234#16) busy)).map (fun t => (t.hcmp, t.ifr)) = some (1234#16, 0#5) := by decide
/-- TK8. -/
theorem test_rsthtmr :
    (next? (exec .rsthtmr busy)).map (fun t => (t.htmr, t.hcmp, t.ifr)) = some (0#16, 100#16, 0#5) := by decide
/-- TK9, TH22. -/
theorem test_enhint_one :
    (next? (exec (.enhint 1#1) State.reset)).map (fun t => (t.hcon, t.ifr)) = some (0b01#2, 0#5) := by decide
/-- TK10, with the two heater latches and a button latch set (R286). -/
theorem test_enhint_zero :
    (next? (exec (.enhint 0#1) { busy with ifr := 0b10111#5 })).map (fun t => (t.hcon, t.ifr)) =
      some (0b00#2, 0b10100#5) := by decide
/-- TK12. -/
theorem test_sethout_zero :
    (next? (exec (.sethout 0#1) busy)).map (fun t => t.hcon) = some 0b01#2 := by decide
/-- TK13. -/
theorem test_sethout_one :
    (next? (exec (.sethout 1#1) State.reset)).map (fun t => t.hcon) = some 0b10#2 := by decide
/-- TK14, TK15. -/
theorem test_setcduty :
    (next? (exec (.setcduty 1023#10) busy)).map (fun t => (t.cduty, t.ccon)) = some (1023#10, 1#1) := by decide
/-- TK16, TK17: the duty and the counter are not touched. -/
theorem test_encpwm :
    (next? (exec (.encpwm 1#1) State.reset)).map (fun t => t.ccon) = some 1#1 ∧
    (next? (exec (.encpwm 0#1) busy)).map (fun t => (t.ccon, t.coolOut, t.cduty, t.cpwmcnt)) =
      some (0#1, false, 300#10, 5#10) := by decide
/-- TK18: field value 3 is row 4. -/
theorem test_displine :
    (next? (exec (.displine 3#2) busy)).map (fun t => (words t, (displayStream t).map Prod.fst)) =
      some ([.cw 0xA0003#20], [4]) := by decide

/-! ### The handlers (sections 1, 3 and 7) -/

/-- TH10. -/
theorem test_irq_tmrovf :
    (next? (exec .irqTmrovf { State.reset with hcon := 0b01#2, htmr := 7#16, ifr := 0b00001#5 })).map
      (fun t => (t.hcon, t.htmr, t.ifr, words t)) = some (0b11#2, 0#16, 0#5, [.cw 0x50000#20]) := by decide
/-- TH11. -/
theorem test_irq_cmpmatch :
    (next? (exec .irqCmpmatch { State.reset with hcon := 0b11#2, htmr := 6400#16, ifr := 0b00010#5 })).map
      (fun t => (t.hcon, t.htmr, t.ifr, words t)) = some (0b01#2, 6400#16, 0#5, []) := by decide
/-- TB2, TB5. -/
theorem test_irq_btn0edge :
    (next? (exec .irqBtn0edge { State.reset with btnr := 0b110#3, ifr := 0b00100#5 })).map
      (fun t => (t.pend, t.ifr, t.btnr)) = some (0b001#3, 0#5, 0b110#3) ∧
    (next? (exec .irqBtn0edge { State.reset with pend := 0b001#3, ifr := 0b00100#5 })).map
      (fun t => (t.pend, t.ifr)) = some (0b001#3, 0#5) := by decide
/-- TB6. -/
theorem test_irq_btn1edge :
    (next? (exec .irqBtn1edge { State.reset with btnr := 0b101#3, ifr := 0b01000#5 })).map
      (fun t => (t.pend, t.ifr, t.btnr)) = some (0b010#3, 0#5, 0b101#3) := by decide
/-- TB7: MODE unchanged. -/
theorem test_irq_btn2edge :
    (next? (exec .irqBtn2edge { State.reset with mode := 3#2, ifr := 0b10000#5 })).map
      (fun t => (t.pend, t.ifr, t.mode)) = some (0b100#3, 0#5, 3#2) := by decide
/-- TH14, TI1 to TI3, TI5: the lowest enabled source is next and PHASE stays. -/
theorem test_dispatch :
    nextTurn { seqAt 9#5 with hcon := 0b01#2, ifr := 0b00101#5 } = .run (.ev 0#3) ∧
    nextTurn { seqAt 9#5 with hcon := 0b01#2, ifr := 0b00010#5 } = .run (.ev 1#3) ∧
    nextTurn { seqAt 9#5 with ifr := 0b10100#5 } = .run (.ev 2#3) ∧
    nextTurn { seqAt 9#5 with ifr := 0b00011#5 } = .run (.ph 9#5) ∧
    (step1 { seqAt 9#5 with ifr := 0b00100#5 }).map (fun t => (t.phase, nextTurn t)) =
      some (9#5, .run (.ph 9#5)) := by decide

/-! ### The event phases (section 1) -/

/-- TB10, TB11. -/
theorem test_ev0_check :
    (step1 { seqAt 4#5 with pend := 0b001#3 }).map (fun t => (t.pend, t.phase, words t)) =
      some (0b000#3, 5#5, []) ∧
    (step1 { seqAt 4#5 with pend := 0b110#3 }).map (fun t => (t.pend, t.phase)) = some (0b110#3, 9#5) := by
  decide
/-- TB12. -/
theorem test_ev0_settle :
    (step1 (seqAt 5#5)).map (fun t => (t.phase, words t)) = some (6#5, [.cw 0x10000#20]) := by decide
/-- TB13, TB15. -/
theorem test_ev0_confirm_asserted :
    (step1 { seqAt 6#5 with mode := 1#2, btnr := 0b110#3 }).map (fun t => (t.mode, t.phase, t.port, words t)) =
      some (2#2, 7#5, [.btnstate 0 true], [.cw 0x30000#20]) ∧
    (step1 { seqAt 6#5 with mode := 3#2, btnr := 0b110#3 }).map (fun t => (t.mode, t.phase)) =
      some (0#2, 7#5) := by decide
/-- TB14. -/
theorem test_ev0_confirm_released :
    (step1 { seqAt 6#5 with mode := 1#2 }).map (fun t => (t.mode, t.phase, t.port)) =
      some (1#2, 9#5, [.btnstate 0 false]) := by decide
/-- TB16, TB17. -/
theorem test_ev0_waitrel :
    (step1 { seqAt 7#5 with btnr := 0b110#3 }).map (fun t => (t.phase, words t)) =
      some (7#5, [.cw 0x10000#20, .cw 0x30000#20]) ∧
    (step1 (seqAt 7#5)).map (fun t => (t.phase, words t)) =
      some (8#5, [.cw 0x10000#20, .cw 0x30000#20]) := by decide
/-- TB18. -/
theorem test_ev0_relsettle :
    (step1 (seqAt 8#5)).map (fun t => (t.phase, words t)) = some (9#5, [.cw 0x10000#20]) := by decide
/-- TB19, TB20. -/
theorem test_ev1_check :
    (step1 { seqAt 9#5 with pend := 0b010#3 }).map (fun t => (t.pend, t.phase)) = some (0b000#3, 10#5) ∧
    (step1 { seqAt 9#5 with pend := 0b101#3 }).map (fun t => (t.pend, t.phase)) = some (0b101#3, 14#5) := by
  decide
/-- TB21. -/
theorem test_ev1_settle :
    (step1 (seqAt 10#5)).map (fun t => (t.phase, words t)) = some (11#5, [.cw 0x10000#20]) := by decide
/-- TB22. -/
theorem test_ev1_confirm_asserted :
    (step1 { seqAt 11#5 with mode := 2#2, hys := 3#2, btnr := 0b101#3 }).map
      (fun t => (t.hys, t.phase, t.mode, words t)) = some (0#2, 12#5, 2#2, [.cw 0x30001#20]) := by decide
/-- TB23. -/
theorem test_ev1_confirm_released :
    (step1 { seqAt 11#5 with hys := 1#2 }).map (fun t => (t.hys, t.phase)) = some (1#2, 14#5) := by decide
/-- TB24, TB25. -/
theorem test_ev1_waitrel :
    (step1 { seqAt 12#5 with btnr := 0b101#3 }).map (fun t => (t.phase, words t)) =
      some (12#5, [.cw 0x10000#20, .cw 0x30001#20]) ∧
    (step1 (seqAt 12#5)).map (fun t => t.phase) = some 13#5 := by decide
/-- TB26. -/
theorem test_ev1_relsettle :
    (step1 (seqAt 13#5)).map (fun t => (t.phase, words t)) = some (14#5, [.cw 0x10000#20]) := by decide
/-- TB27, TB28. -/
theorem test_ev2_check :
    (step1 { seqAt 14#5 with pend := 0b100#3 }).map (fun t => (t.pend, t.phase)) = some (0b000#3, 15#5) ∧
    (step1 (seqAt 14#5)).map (fun t => (t.pend, t.phase)) = some (0b000#3, 19#5) := by decide
/-- TB29. -/
theorem test_ev2_settle :
    (step1 (seqAt 15#5)).map (fun t => (t.phase, words t)) = some (16#5, [.cw 0x10000#20]) := by decide
/-- TB30, TB31. -/
theorem test_ev2_confirm_asserted :
    (step1 { seqAt 16#5 with mode := 3#2, hys := 2#2, btnr := 0b011#3 }).map
      (fun t => (t.mode, t.hys, t.phase, words t)) = some (0#2, 2#2, 17#5, [.cw 0x30002#20]) ∧
    (step1 { seqAt 16#5 with btnr := 0b011#3 }).map (fun t => (t.mode, t.phase)) = some (0#2, 17#5) := by
  decide
/-- TB32. -/
theorem test_ev2_confirm_released :
    (step1 { seqAt 16#5 with mode := 2#2 }).map (fun t => (t.mode, t.phase)) = some (2#2, 19#5) := by decide
/-- TB33, TB34. -/
theorem test_ev2_waitrel :
    (step1 { seqAt 17#5 with btnr := 0b011#3 }).map (fun t => (t.phase, words t)) =
      some (17#5, [.cw 0x10000#20, .cw 0x30002#20]) ∧
    (step1 (seqAt 17#5)).map (fun t => t.phase) = some 18#5 := by decide
/-- TB35. -/
theorem test_ev2_relsettle :
    (step1 (seqAt 18#5)).map (fun t => (t.phase, words t)) = some (19#5, [.cw 0x10000#20]) := by decide

/-! ### The other phases (sections 4 and 5) -/

/-- Section 5, row 0. -/
theorem test_wdt :
    (step1 (seqAt 0#5)).map (fun t => (t.phase, words t)) = some (1#5, [.cw 0x10000#20]) := by decide
/-- Section 5, rows 1 to 3. -/
theorem test_samp0 :
    (step1 { seqAt 1#5 with adc0 := 512#10 }).map (fun t => (t.raw0, t.phase, words t)) =
      some (512#10, 2#5, [.cw 0x20000#20]) := by decide
theorem test_samp1 :
    (step1 { seqAt 2#5 with adc1 := 100#10 }).map (fun t => (t.raw1, t.phase, words t)) =
      some (100#10, 3#5, [.cw 0x20001#20]) := by decide
theorem test_samp2 :
    (step1 { seqAt 3#5 with adc2 := 102#10 }).map (fun t => (t.raw2, t.phase, words t)) =
      some (102#10, 4#5, [.cw 0x20002#20]) := by decide
/-- Section 5, row 19. -/
theorem test_render :
    (step1 { seqAt 19#5 with mode := 3#2 }).map (fun t => (t.phase, words t, (displayStream t).map Prod.fst)) =
      some (20#5, [.cw 0xA0000#20, .cw 0xA0001#20, .cw 0xA0002#20, .cw 0xA0003#20], [1, 2, 3, 4]) := by
  decide

/-- A state of the mode `m` at phase `p`, with the samples of programs P5 to P7. -/
def inMode (m : BitVec 2) (p : PhaseCode) : State :=
  { busy with mode := m, phase := p, agenda := [.seq], flags := 0b00#2 }

/-- TM4, TM6, TM10: step 0. -/
theorem test_exec0 :
    (step1 (inMode 0#2 20#5)).map (fun t => (t.flags, t.phase)) = some (0b00#2, 21#5) ∧
    (step1 (inMode 1#2 20#5)).map (fun t => (t.flags, t.phase)) = some (0b01#2, 21#5) ∧
    (step1 (inMode 2#2 20#5)).map (fun t => (t.flags, t.phase)) = some (0b10#2, 21#5) := by decide
/-- TM3a, TM3b, TM3c: AutoCool, by the comparator. -/
theorem test_exec0_autocool :
    (step1 { inMode 3#2 20#5 with hys := 1#2, raw2 := 103#10 }).map (fun t => t.flags) = some 0b10#2 ∧
    (step1 { inMode 3#2 20#5 with hys := 1#2, raw2 := 102#10 }).map (fun t => t.flags) = some 0b00#2 ∧
    (step1 { inMode 3#2 20#5 with hys := 1#2, raw2 := 92#10 }).map (fun t => t.flags) = some 0b01#2 := by
  decide
/-- TM4, TM9, TM10: step 1. -/
theorem test_exec1 :
    (step1 (inMode 0#2 21#5)).map (fun t => (t.hcon, words t)) = some (0b00#2, [.cw 0x60000#20]) ∧
    (step1 (inMode 1#2 21#5)).map (fun t => (t.ccon, words t)) = some (0#1, [.cw 0x90000#20]) ∧
    (step1 (inMode 2#2 21#5)).map (fun t => (t.hcon, words t)) = some (0b01#2, [.cw 0x70000#20]) := by decide
/-- TM4, TM9, TM10: step 2. -/
theorem test_exec2 :
    (step1 (inMode 0#2 22#5)).map (fun t => (t.ccon, words t)) = some (0#1, [.cw 0x90000#20]) ∧
    (step1 (inMode 1#2 22#5)).map (fun t => (t.cduty, words t)) = some (0#10, [.cw 0x80000#20]) ∧
    (step1 (inMode 2#2 22#5)).map (fun t => (t.hcon, words t)) = some (0b00#2, [.cw 0x60000#20]) := by decide
/-- TM4, TM6, TM10: step 3. -/
theorem test_exec3 :
    (step1 (inMode 0#2 23#5)).map (fun t => (t.hcon, words t)) = some (0b01#2, [.cw 0x70000#20]) ∧
    (step1 (inMode 1#2 23#5)).map (fun t => (t.hcon, words t)) = some (0b11#2, [.cw 0x60001#20]) ∧
    (step1 (inMode 2#2 23#5)).map (fun t => (t.ccon, words t)) = some (1#1, [.cw 0x90001#20]) := by decide
/-- TM4, TM6, TM10: step 4. -/
theorem test_exec4 :
    (step1 (inMode 0#2 24#5)).map (fun t => (t.cduty, words t)) = some (0#10, [.cw 0x80000#20]) ∧
    (step1 (inMode 1#2 24#5)).map (fun t => (t.hcmp, words t)) = some (6400#16, [.cw 0x41900#20]) ∧
    (step1 (inMode 2#2 24#5)).map (fun t => (t.cduty, words t)) = some (100#10, [.cw 0x80064#20]) := by decide
/-- TM8: the largest sample. -/
theorem test_exec4_largest :
    (step1 { inMode 1#2 24#5 with raw1 := 1023#10 }).map (fun t => (t.hcmp, words t)) =
      some (65472#16, [.cw 0x4FFC0#20]) := by decide
/-- Section 5, row 25. -/
theorem test_pace :
    (step1 (seqAt 25#5)).map (fun t => (t.phase, words t)) = some (0#5, [.cw 0x10000#20]) := by decide

/-! ### The steps without an encoding (sections 1, 3 and 8) -/

/-- TH1, TH2, TH3. -/
theorem test_htick_latches :
    (step1 { turnOf .htick with htmr := 6399#16, hcmp := 6400#16, hcon := 0b01#2 }).map
      (fun t => (t.htmr, t.ifr)) = some (6400#16, 0b00010#5) ∧
    (step1 { turnOf .htick with htmr := 65535#16, hcmp := 6400#16, hcon := 0b01#2 }).map
      (fun t => (t.htmr, t.ifr)) = some (0#16, 0b00001#5) ∧
    (step1 { turnOf .htick with htmr := 65535#16, hcon := 0b01#2 }).map
      (fun t => (t.htmr, t.ifr)) = some (0#16, 0b00011#5) := by decide
/-- TH4, TH5, TH6. -/
theorem test_htick_quiet :
    (step1 { turnOf .htick with htmr := 65535#16 }).map (fun t => (t.htmr, t.ifr)) = some (0#16, 0#5) ∧
    (step1 { turnOf .htick with htmr := 6399#16, hcmp := 6400#16 }).map
      (fun t => (t.htmr, t.ifr)) = some (6400#16, 0#5) ∧
    (step1 { turnOf .htick with htmr := 100#16, hcmp := 6400#16, hcon := 0b01#2 }).map
      (fun t => (t.htmr, t.ifr)) = some (101#16, 0#5) := by decide
/-- TP1. -/
theorem test_ctick :
    (step1 { turnOf .ctick with cpwmcnt := 1023#10 }).map (fun t => t.cpwmcnt) = some 0#10 := by decide
/-- TP2 to TP7. -/
theorem test_cool_out :
    State.coolOut { State.reset with cduty := 100#10, cpwmcnt := 5#10 } = false ∧
    State.coolOut { State.reset with ccon := 1#1, cduty := 100#10, cpwmcnt := 99#10 } = true ∧
    State.coolOut { State.reset with ccon := 1#1, cduty := 100#10, cpwmcnt := 100#10 } = false ∧
    State.coolOut { State.reset with ccon := 1#1 } = false ∧
    State.coolOut { State.reset with ccon := 1#1, cduty := 1023#10, cpwmcnt := 1022#10 } = true ∧
    State.coolOut { State.reset with ccon := 1#1, cduty := 1023#10, cpwmcnt := 1023#10 } = false := by decide
/-- TB1, TB3, TB4. -/
theorem test_env_btn :
    (step1 (turnOf (.envBtn 0 false))).map (fun t => (t.btnr, t.ifr)) = some (0b110#3, 0b00100#5) ∧
    (step1 { turnOf (.envBtn 0 false) with btnr := 0b110#3 }).map (fun t => (t.btnr, t.ifr)) =
      some (0b110#3, 0#5) ∧
    (step1 { turnOf (.envBtn 0 true) with btnr := 0b110#3 }).map (fun t => (t.btnr, t.ifr)) =
      some (0b111#3, 0b00100#5) := by decide
/-- R39. -/
theorem test_env_adc :
    (step1 (turnOf (.envAdc 2 102#10))).map (fun t => (t.adc0, t.adc1, t.adc2, t.raw2)) =
      some (0#10, 0#10, 102#10, 0#10) := by decide
/-- TZ1, TZ2: a held button reads released after RESET, and a pending request is discarded. -/
theorem test_reset_step :
    step1 { turnOf .reset with
      mode := 3#2, hys := 2#2, raw0 := 512#10, flags := 0b10#2, pend := 0b010#3, phase := 12#5
      htmr := 4321#16, hcmp := 6400#16, cduty := 100#10, ccon := 1#1, cpwmcnt := 77#10, btnr := 0b101#3 } =
      some { State.reset with clock := 1 } ∧
    step1 { turnOf .reset with mode := 1#2, flags := 0b01#2, hcon := 0b11#2, ifr := 0b00010#5 } =
      some { State.reset with clock := 1 } := by decide

/-! ### Functions -/

/-- TA2 to TA8, TA12, TA25. -/
theorem test_comparator :
    autoCoolRaw 205#10 35#10 2#2 = .heat ∧ autoCoolRaw 205#10 39#10 2#2 = .idle ∧
    autoCoolRaw 205#10 36#10 2#2 = .heat ∧ autoCoolRaw 205#10 37#10 2#2 = .idle ∧
    autoCoolRaw 205#10 42#10 2#2 = .cool ∧ autoCoolRaw 205#10 41#10 2#2 = .idle ∧
    autoCoolRaw 500#10 100#10 0#2 = .idle ∧ autoCoolRaw 512#10 102#10 0#2 = .heat ∧
    autoCoolRaw 20#10 0#10 2#2 = .idle := by decide
/-- Examples S3, S4, S5. -/
theorem test_comparator_exact :
    autoCool 25 20 2#2 = .cool ∧ autoCool 17 20 2#2 = .heat ∧ autoCool 19 20 2#2 = .idle := by
  norm_num [autoCool, bandWidth]
/-- Section 4, compare arithmetic: the wrap. -/
theorem test_compare_value :
    heaterCompare 1 = 64#16 ∧ heaterCompare 1023 = 65472#16 ∧ heaterCompare 1024 = 0#16 ∧
    heaterCompare 2000 = 62464#16 := by decide
/-- R263: 30 ms and 50 ms. -/
theorem test_delays : delayMs 5#5 = some 30 ∧ delayMs 18#5 = some 50 ∧ delayMs 0#5 = none := by decide

/-! ### Witnesses: for every obligation with hypotheses, a state and operands that meet them -/

/-- A state with all three buttons held. -/
def held : State := { busy with btnr := 0b000#3 }

theorem witness_DecodeOfEncodeIsIdentity :
    (Instr.setcduty 1023#10).wellFormed = true ∧ (Instr.sample 2#2).wellFormed = true := by decide

theorem witness_EncodeOfDecodeIsIdentity :
    decode (.cw 0x803FF#20) = .ok (.setcduty 1023#10) ∧ decode (.ph 25#5) = .ok .seqSPace := ⟨rfl, rfl⟩

/-- The largest index and the reserved one. -/
theorem witness_SelectedRowIsTheOneDecoded :
    (opcodeRow (.sample 0#2)).selects (.cw 0x20002#20) = true ∧
    (opcodeRow (.sample 0#2)).selects (.cw 0x20003#20) = true ∧
    (opcodeRow (.btnstate 0#2)).selects (.cw 0x30003#20) = true := by decide

/-- The clauses in order, at opcodes 0, 11 and 15 and at a word with one unused bit set. -/
theorem witness_ReservedCommandWordsRefused :
    (0x0FFFF#20 : CmdWord).toNat / 65536 = 0 ∧ 11 ≤ (0xB0000#20 : CmdWord).toNat / 65536 ∧
    11 ≤ (0xFFFFF#20 : CmdWord).toNat / 65536 ∧
    (opcodeRow .rsthtmr = .cw 0xFFFFF#20 0x50000#20 ∧
      (0x50001#20 : CmdWord).toNat / 65536 = (0x50000#20 : CmdWord).toNat / 65536 ∧
      0x50001#20 &&& 0xFFFFF#20 ≠ 0x50000#20) ∧
    (State.cmd { busy with cmd := some 0x50001#20 } = some 0x50001#20 ∧
      decode (.cw 0x50001#20) = .error (.operandBits 1#16)) :=
  ⟨by decide, by decide, by decide, ⟨rfl, by decide, by decide⟩, rfl, rfl⟩

/-- Codes 25 and 26, source numbers 4 and 5, and a sequencer turn at code 26. -/
theorem witness_ReservedPhasesAndIndicesRefused :
    26 ≤ (26#5 : PhaseCode).toNat ∧ (25#5 : PhaseCode).toNat ≤ 25 ∧ 5 ≤ (5#3 : SourceNumber).toNat ∧
    (4#3 : SourceNumber).toNat ≤ 4 ∧
    ((seqAt 26#5).cmd = none ∧ offer (seqAt 26#5) = .seq ∧ pendingSource (seqAt 26#5) = none ∧
      26 ≤ (seqAt 26#5).phase.toNat) ∧
    ((seqAt 25#5).phase.toNat ≤ 25 ∧ (step1 (seqAt 25#5)).isSome = true) ∧
    pendingSource { State.reset with ifr := 0b10000#5 } = some 4#3 := by decide

/-- A presented command word, the served sources 0 and 4, and the last phase. -/
theorem witness_StepRunsTheDecodedWord :
    (State.cmd { busy with cmd := some 0x41900#20 } = some 0x41900#20 ∧
      decode (.cw 0x41900#20) = .ok (.sethcmp 6400#16)) ∧
    (offer { seqAt 3#5 with hcon := 0b01#2, ifr := 0b10001#5 } ≠ .other .reset ∧
      pendingSource { seqAt 3#5 with hcon := 0b01#2, ifr := 0b10001#5 } = some 0#3 ∧
      decode (.ev 0#3) = .ok .irqTmrovf) ∧
    (offer { seqAt 3#5 with ifr := 0b10000#5 } ≠ .other .reset ∧
      pendingSource { seqAt 3#5 with ifr := 0b10000#5 } = some 4#3 ∧
      decode (.ev 4#3) = .ok .irqBtn2edge) ∧
    ((seqAt 25#5).cmd = none ∧ offer (seqAt 25#5) = .seq ∧ pendingSource (seqAt 25#5) = none ∧
      decode (.ph (seqAt 25#5).phase) = .ok .seqSPace) :=
  ⟨⟨rfl, rfl⟩, ⟨by decide, by decide, rfl⟩, ⟨by decide, by decide, rfl⟩, by decide, by decide, by decide,
    rfl⟩

theorem witness_PlacedWordIsRunNext :
    decodeTableWord 24 0x41900 = some (.sethcmp 6400#16) ∧ decodeTableWord 3 4 = some .irqBtn2edge ∧
    decodeTableWord 8 25 = some .seqSPace ∧ decodeTableWord 8 26 = none ∧ decodeTableWord 7 0 = none := by
  decide

/-- Also with every request latch set. -/
theorem witness_ResetGivesEveryRegisterItsValue :
    State.cmd { turnOf .reset with ifr := 0b11111#5 } = none ∧
    offer { turnOf .reset with ifr := 0b11111#5 } = .other .reset := by decide

theorem witness_ConfirmedModeChangeAdvancesMode :
    held.btnr.getLsbD 0 = false ∧ State.reset.btnr.getLsbD 0 = true := by decide
theorem witness_ConfirmedHysteresisChangeAdvancesLevel :
    held.btnr.getLsbD 1 = false ∧ State.reset.btnr.getLsbD 1 = true := by decide
theorem witness_ConfirmedOffRequestForcesOff :
    held.btnr.getLsbD 2 = false ∧ State.reset.btnr.getLsbD 2 = true := by decide

theorem witness_RenderWritesTheFourRows :
    ∃ t, exec .seqSRender { busy with port := [] } = .next t := ⟨_, rfl⟩

/-- The four actions, each from a state of its own; AutoCool gives the idle one (TA8). -/
def offState : State := { busy with mode := 0#2, ifr := 0#5, phase := 20#5 }
def heatState : State := { busy with mode := 1#2, ifr := 0#5, phase := 20#5 }
def coolState : State := { busy with mode := 2#2, ifr := 0#5, phase := 20#5 }
def idleState : State :=
  { busy with mode := 3#2, raw0 := 500#10, raw2 := 100#10, hys := 0#2, ifr := 0#5, phase := 20#5 }

theorem witness_Exec0WritesTheFlagsOfTheAction :
    select offState = .off ∧ select idleState = .idle ∧ select heatState = .heat ∧
    select coolState = .cool := by decide
theorem witness_Exec1IssuesTheFirstStep :
    select offState = .off ∧ select idleState = .idle ∧ select heatState = .heat ∧
    select coolState = .cool := witness_Exec0WritesTheFlagsOfTheAction
theorem witness_Exec2IssuesTheSecondStep :
    select offState = .off ∧ select idleState = .idle ∧ select heatState = .heat ∧
    select coolState = .cool := witness_Exec0WritesTheFlagsOfTheAction
theorem witness_Exec3IssuesTheThirdStep :
    select offState = .off ∧ select idleState = .idle ∧ select heatState = .heat ∧
    select coolState = .cool := witness_Exec0WritesTheFlagsOfTheAction
theorem witness_Exec4LoadsCompareOrDuty :
    select offState = .off ∧ select idleState = .idle ∧ select heatState = .heat ∧
    select coolState = .cool := witness_Exec0WritesTheFlagsOfTheAction

/-- The heater timer's turn at count `h` with compare value `c`, enabled. -/
def tickAt (h c : Count) : State := { turnOf .htick with htmr := h, hcmp := c, hcon := 0b01#2 }

/-- At the wrap, at the wrap with a match, at the match, and between. -/
theorem witness_HeaterTickCountsAndLatches :
    ∀ s ∈ [tickAt 65535#16 5#16, tickAt 65535#16 0#16, tickAt 4#16 5#16, tickAt 6#16 5#16],
      s.cmd = none ∧ offer s = .other .htick ∧ pendingSource s = none := by
  simp only [List.forall_mem_cons]; decide
theorem witness_CoolerTickCounts :
    State.cmd { turnOf .ctick with cpwmcnt := 1023#10 } = none ∧
    offer { turnOf .ctick with cpwmcnt := 1023#10 } = .other .ctick ∧
    pendingSource { turnOf .ctick with cpwmcnt := 1023#10 } = none := by decide
/-- The turn of button `k` to level `v`, and the sequencer's after it. -/
def pressAt (k : Fin 3) (v : Bool) : State :=
  { State.reset with agenda := [.other (.envBtn k v), .seq] }

/-- Each button, with a change of level (to asserted) and without one. -/
theorem witness_ButtonEdgeSetsItsLatch :
    ∀ (k : Fin 3) (v : Bool), (pressAt k v).cmd = none ∧ offer (pressAt k v) = .other (.envBtn k v) ∧
      pendingSource (pressAt k v) = none ∧ (step1 (pressAt k v)).map offer = some .seq ∧
      (v = false → (step1 (pressAt k v)).map State.btnr ≠ some (pressAt k v).btnr) := by decide
theorem witness_AnalogChangeMovesOnlyItsInput :
    ∀ k : Fin 3, (turnOf (.envAdc k 1023#10)).cmd = none ∧
      offer (turnOf (.envAdc k 1023#10)) = .other (.envAdc k 1023#10) ∧
      pendingSource (turnOf (.envAdc k 1023#10)) = none := by decide

/-- Both sides of the equivalence, at the ends of the range. -/
theorem witness_LowestRequestedSourceIsServed :
    pendingSource { State.reset with hcon := 0b01#2, ifr := 0b11111#5 } = some 0#3 ∧
    pendingSource { State.reset with ifr := 0b11111#5 } = some 2#3 ∧
    pendingSource { State.reset with ifr := 0b10000#5 } = some 4#3 := by decide
/-- The sequencer's turn with latches `v` and the heater sources enabled. -/
def latched (v : BitVec 5) : State := { seqAt 7#5 with hcon := 0b01#2, ifr := v }

/-- Every source, with all latches set. -/
theorem witness_PendingRequestIsServedBeforeAnyOtherAgent :
    ∀ n : Fin 5, (latched 0b11111#5).cmd = none ∧ offer (latched 0b11111#5) ≠ .other .reset ∧
      (latched 0b11111#5).ifr.getLsbD n.val = true ∧
      (n.val < 2 → (latched 0b11111#5).hcon.getLsbD 0 = true) := by decide

theorem witness_DerivedValuesFollowTheirFormulas :
    (0#10 : Sample) < 1#10 ∧ (1022#10 : Sample) < 1023#10 := by decide
/-- Above the setpoint, below the band, and both edges of the band. -/
theorem witness_ComparatorDecidesByTheBand :
    (20 : Rat) < 25 ∧ (17 : Rat) < 20 - ((2#2 : BitVec 2).toNat : Rat) ∧
    (20 - ((2#2 : BitVec 2).toNat : Rat) ≤ 18 ∧ (18 : Rat) ≤ 20) ∧
    (20 - ((2#2 : BitVec 2).toNat : Rat) ≤ 20 ∧ (20 : Rat) ≤ 20) := by norm_num
theorem witness_ActionIsSelectedByModeAndComparator :
    offState.mode = 0#2 ∧ heatState.mode = 1#2 ∧ coolState.mode = 2#2 ∧ idleState.mode = 3#2 ∧
    (busy.mode = heatState.mode ∧ busy.hys = heatState.hys ∧ busy.raw0 = heatState.raw0 ∧
      busy.raw2 = heatState.raw2) := by decide
theorem witness_CoolerOutputIsHighForTheDuty :
    State.reset.ccon = 0#1 ∧ busy.ccon = 1#1 := by decide

/-- A safe state inside ACT_HEAT, with a match request latched. -/
def safeState : State :=
  { State.reset with
    agenda := [.seq], mode := 1#2, flags := 0b01#2, phase := 22#5, hcon := 0b11#2, ifr := 0b00010#5 }

theorem safe_safeState : SafeState safeState := by unfold SafeState; decide

theorem witness_EveryStepKeepsTheSafeState :
    ∃ t, SafeState safeState ∧ step safeState = .next t := ⟨_, safe_safeState, rfl⟩
theorem witness_SafeMachineNeverStops :
    (seqAt 25#5).cmd = none ∧ (seqAt 25#5).phase.toNat ≤ 25 := by decide
theorem witness_RequestsAreClearWhenOthersStep :
    SafeState (seqAt 25#5) ∧ (∀ n, nextTurn (seqAt 25#5) ≠ .run (.ev n)) ∧
    nextTurn (seqAt 25#5) ≠ .take .reset :=
  ⟨by unfold SafeState; decide, by decide, by decide⟩
theorem witness_EveryRegisterHasItsWriters :
    ∃ t, step { seqAt 6#5 with btnr := 0b110#3 } = .next t ∧
      Reg.hys ∉ mayWrite (nextTurn { seqAt 6#5 with btnr := 0b110#3 }) := ⟨_, rfl, by decide⟩

/-- Set by the handler, cleared by the check and by RESET. -/
theorem witness_PendingFlagsRiseInHandlersAndFallInChecks :
    (∃ t, step { seqAt 0#5 with ifr := 0b10000#5 } = .next t ∧
      State.pendBit { seqAt 0#5 with ifr := 0b10000#5 } 2 = false ∧ t.pendBit 2 = true) ∧
    (∃ t, step { seqAt 14#5 with pend := 0b100#3 } = .next t ∧
      State.pendBit { seqAt 14#5 with pend := 0b100#3 } 2 = true ∧ t.pendBit 2 = false) ∧
    (∃ t, step { turnOf .reset with pend := 0b001#3 } = .next t ∧
      State.pendBit { turnOf .reset with pend := 0b001#3 } 0 = true ∧ t.pendBit 0 = false) :=
  ⟨⟨_, rfl, by decide⟩, ⟨_, rfl, by decide⟩, ⟨_, rfl, by decide⟩⟩
/-- A confirmed mode-change, a confirmed off-request and RESET. -/
theorem witness_ModeChangesOnlyByConfirmedEvents :
    (∃ t, step { seqAt 6#5 with mode := 3#2, btnr := 0#3 } = .next t ∧ t.mode ≠ 3#2) ∧
    (∃ t, step { seqAt 16#5 with mode := 3#2, btnr := 0#3 } = .next t ∧ t.mode ≠ 3#2) ∧
    (∃ t, step { turnOf .reset with mode := 3#2 } = .next t ∧ t.mode ≠ 3#2) :=
  ⟨⟨_, rfl, by decide⟩, ⟨_, rfl, by decide⟩, ⟨_, rfl, by decide⟩⟩
theorem witness_HeaterRisesOnlyInTheOverflowHandler :
    ∃ t, step { seqAt 0#5 with hcon := 0b01#2, ifr := 0b00001#5 } = .next t ∧
      State.heatOut { seqAt 0#5 with hcon := 0b01#2, ifr := 0b00001#5 } = false ∧ t.heatOut = true :=
  ⟨_, rfl, by decide⟩
theorem witness_SequencerDoesNotReadTheTimers :
    decode (.ph 24#5) = .ok .seqSExec4 ∧ decode (.ph 0#5) = .ok .seqSWdt := ⟨rfl, rfl⟩
/-- Every phase, so every clause. -/
theorem witness_SuccessorOfEveryPhase :
    ∀ n : Fin 26, (seqAt (BitVec.ofNat 5 n)).cmd = none ∧ offer (seqAt (BitVec.ofNat 5 n)) = .seq ∧
      pendingSource (seqAt (BitVec.ofNat 5 n)) = none ∧ (seqAt (BitVec.ofNat 5 n)).phase.toNat = n ∧
      (seqAt (BitVec.ofNat 5 n)).phase.toNat ≤ 25 := by decide
theorem witness_WatchdogIsRefreshedWithinThirteenSteps :
    ∀ p ∈ [0#5, 1#5, 25#5], (seqAt p).cmd = none ∧ offer (seqAt p) = .seq ∧
      pendingSource (seqAt p) = none ∧ (seqAt p).phase.toNat ≤ 25 := by decide
/-- Each event, with its button released. -/
theorem witness_NoiseIsDiscardedInThreeSteps :
    ∀ k : Fin 3,
      let s := { seqAt (BitVec.ofNat 5 (4 + 5 * k.val)) with
        pend := 0b111#3, agenda := [.seq, .seq, .seq, .seq] }
      s.cmd = none ∧ s.ifr = 0#5 ∧ s.agenda = .seq :: .seq :: .seq :: [.seq] ∧
        s.phase.toNat = 4 + 5 * k.val ∧ s.pendBit k = true ∧ s.btn k = true := by decide
/-- Each action. -/
theorem witness_ActionsCompleteInFiveSteps :
    ∀ s ∈ [offState, idleState, heatState, coolState],
      let s' := { s with agenda := List.replicate 5 .seq ++ [.seq] }
      s'.cmd = none ∧ s'.ifr = 0#5 ∧ s'.phase = 20#5 ∧
        s'.agenda = List.replicate 5 .seq ++ [.seq] ∧ select s' = select s := by decide
/-- In mode Off, and in mode Cool. -/
theorem witness_IterationWithNoEventTakesFourteenSteps :
    ∀ m ∈ [0#2, 2#2],
      let s : State := { busy with mode := m, agenda := List.replicate 14 .seq ++ [] }
      s.cmd = none ∧ s.ifr = 0#5 ∧ s.pend = 0#3 ∧ s.phase = 0#5 ∧
        s.agenda = List.replicate 14 .seq ++ [] ∧ s.mode = m := by decide
/-- The heater running at the start of a period of compare value 6400, with `n` ticks to come. -/
def heaterState (n : Nat) : State :=
  { State.reset with
    hcon := 0b11#2, hcmp := 6400#16, agenda := List.replicate n (.other .htick) ++ .seq :: [] }

/-- The last tick of a period. -/
def lastTick : State := { heaterState 1 with htmr := 65535#16 }

/-- The first clause with no tick, before and at the match and before the wrap, and the second. -/
theorem witness_HeaterDutyIsTheCompareValue :
    (∀ n ∈ [0, 6399, 6400, 65535], n < 65536) ∧
    (∀ n, (heaterState n).cmd = none ∧ (heaterState n).ifr = 0#5 ∧ (heaterState n).hie = true ∧
      (heaterState n).hcmp ≠ 0#16 ∧ (heaterState n).htmr = 0#16 ∧ (heaterState n).heatOut = true ∧
      (heaterState n).agenda = List.replicate n (.other .htick) ++ .seq :: []) ∧
    (lastTick.cmd = none ∧ lastTick.ifr = 0#5 ∧ lastTick.hie = true ∧ lastTick.hcmp ≠ 0#16 ∧
      lastTick.htmr = 65535#16 ∧ lastTick.agenda = .other .htick :: .seq :: []) :=
  ⟨by decide,
    fun _ => ⟨rfl, rfl, by simp [heaterState, State.hie], by simp [heaterState], rfl,
      by simp [heaterState, State.heatOut], rfl⟩,
    by decide⟩

/-- The last tick of a period of compare value 0, as program P4 has it. -/
def lastTickZero : State :=
  { seqAt 25#5 with hcon := 0b01#2, htmr := 65535#16, agenda := [.other .htick, .seq] }

theorem witness_ZeroCompareValueGivesZeroDuty :
    lastTickZero.cmd = none ∧ lastTickZero.ifr = 0#5 ∧ lastTickZero.hie = true ∧ lastTickZero.hcmp = 0#16 ∧
    lastTickZero.htmr = 65535#16 ∧ lastTickZero.agenda = .other .htick :: .seq :: [] := by decide

end Sys2Proof.Tests
end

/-! SUPPORT. The phase codes, source numbers and indices of 30_encoding: what the decoder admits, what
each operation of the machine does to PHASE, and the obligation O6 assembled from both. -/

namespace Sys2Proof

/-! ### What the decoder admits -/

theorem exists_ok_of_isOk {ε α : Type} {x : Except ε α} (h : x.isOk = true) : ∃ a, x = .ok a := by
  cases x with
  | ok a => exact ⟨a, rfl⟩
  | error e => cases h

/-- Exactly the codes 0 to 25 are phases (R110, R113). -/
theorem isOk_decodePH : ∀ p : PhaseCode, (decodePH p).isOk = decide (p.toNat ≤ 25) := by decide

/-- Exactly the numbers 0 to 4 are sources (R108, R114). -/
theorem isOk_decodeEV : ∀ n : SourceNumber, (decodeEV n).isOk = decide (n.toNat ≤ 4) := by decide

theorem decodePH_reserved : ∀ p : PhaseCode, 26 ≤ p.toNat → decodePH p = .error (.phase p) := by
  decide

theorem decodeEV_reserved : ∀ n : SourceNumber, 5 ≤ n.toNat → decodeEV n = .error (.source n) := by
  decide

theorem exists_decodePH {p : PhaseCode} (h : p.toNat ≤ 25) : ∃ i, decodePH p = .ok i :=
  exists_ok_of_isOk (by simpa [isOk_decodePH] using h)

theorem exists_decodeEV {n : SourceNumber} (h : n.toNat ≤ 4) : ∃ i, decodeEV n = .ok i :=
  exists_ok_of_isOk (by simpa [isOk_decodeEV] using h)

/-- The row field of DISPLINE has no reserved value (R103). -/
theorem decode_displine_word :
    ∀ r : BitVec 2, decode (.cw (0xA0000#20 ||| r.setWidth 20)) = .ok (.displine r) := by decide

namespace Machine

/-! ### Indices on the port -/

theorem indexField_ne_three : ∀ k : Fin 3, indexField k ≠ 3#2 := by decide

/-- Of the port events only SAMPLE and BTNSTATE carry an index, and a channel or button is never 3. -/
theorem PortEvent.instr_ne_reservedIndex (e : PortEvent) :
    e.instr ≠ .sample 3#2 ∧ e.instr ≠ .btnstate 3#2 := by
  cases e with
  | sample k _ => simp [PortEvent.instr, indexField_ne_three]
  | btnstate k _ => simp [PortEvent.instr, indexField_ne_three]
  | _ => simp [PortEvent.instr]

/-! ### The turn -/

/-- With nothing presented and nothing requested, the sequencer's turn runs the phase PHASE holds. -/
theorem nextTurn_seq {s : State} (hcmd : s.cmd = none) (hoffer : offer s = .seq)
    (hpend : pendingSource s = none) : nextTurn s = .run (.ph s.phase) := by
  simp [nextTurn, hcmd, hoffer, hpend]

theorem step_of_decode_error {s : State} {w : Word} {r : Reserved} (hturn : nextTurn s = .run w)
    (hdec : decode w = .error r) : step s = .refused (.reservedWord r) := by
  simp [step, hturn, hdec]

theorem pendingSource_le {s : State} {n : SourceNumber} (h : pendingSource s = some n) :
    n.toNat ≤ 4 := by
  obtain ⟨hnone, _⟩ | ⟨m, hsome, _⟩ := pendingSource_cases s
  · simp [hnone] at h
  · obtain rfl : BitVec.ofNat 3 m = n := by simpa [hsome] using h
    simp only [BitVec.toNat_ofNat]
    omega

@[simp] theorem beginTurn_phase (t : Turn) (s : State) : (beginTurn t s).phase = s.phase := by
  cases t with
  | run w => cases w <;> rfl
  | take a => rfl

/-! ### What the shared operations do to PHASE -/

@[simp] theorem portSample_phase (k : Fin 3) (s : State) : (portSample k s).2.phase = s.phase := rfl
@[simp] theorem portBtnstate_phase (k : Fin 3) (s : State) : (portBtnstate k s).2.phase = s.phase := rfl

@[simp] theorem portEnhint_phase (b : BitVec 1) (s : State) : (portEnhint b s).phase = s.phase := by
  by_cases hb : b = 1#1 <;> simp [portEnhint, hb]

@[simp] theorem refreshThen_phase (next : PhaseCode) (s : State) : (refreshThen next s).phase = next :=
  rfl

@[simp] theorem sampleThen_phase (k : Fin 3) (next : PhaseCode) (s : State) :
    (sampleThen k next s).phase = next := rfl

theorem checkEvent_phase (k : Fin 3) (settle next : PhaseCode) (s : State) :
    (checkEvent k settle next s).phase = if s.pendBit k = true then settle else next := by
  by_cases h : s.pendBit k = true <;> simp [checkEvent, h]

theorem confirmEvent_phase (k : Fin 3) (action : State → State) (waitrel next : PhaseCode) (s : State) :
    (confirmEvent k action waitrel next s).phase = if s.btn k = true then next else waitrel := by
  cases h : s.btn k with
  | true => simp [confirmEvent_released, h]
  | false => simp [confirmEvent_asserted, h]

theorem waitRelease_phase (k : Fin 3) (waitrel relsettle : PhaseCode) (s : State) :
    (waitRelease k waitrel relsettle s).phase = if s.btn k = true then relsettle else waitrel := by
  cases h : s.btn k with
  | true => simp [waitRelease_released, h]
  | false => simp [waitRelease_held, h]

@[simp] theorem htick_phase (s : State) : (htick s).phase = s.phase := by
  simp only [htick]
  split_ifs <;> simp

@[simp] theorem envBtn_phase (k : Fin 3) (v : Bool) (s : State) : (envBtn k v s).phase = s.phase := by
  by_cases h : s.btn k = v
  · rw [envBtn_same k v s h]
  · rw [envBtn_edge k v s h]

/-- Of the steps without an encoding RESET alone writes PHASE (R326). -/
theorem takeStep_phase (a : UnencodedStep) (s : State) :
    (takeStep a s).phase = if a = .reset then State.reset.phase else s.phase := by
  cases a with
  | htick => exact htick_phase s
  | ctick => rfl
  | envBtn k v => exact envBtn_phase k v s
  | envAdc k v => rfl
  | reset => rfl

/-! ### What an operation does to PHASE -/

theorem execSample_next {ch : BitVec 2} {s t : State} (h : execSample ch s = .next t) :
    ∃ k, t = (portSample k s).2 := by
  unfold execSample at h
  split at h
  · next k _ => exact ⟨k, (Host.Outcome.next.inj h).symm⟩
  · cases h

theorem execBtnstate_next {id : BitVec 2} {s t : State} (h : execBtnstate id s = .next t) :
    ∃ k, t = (portBtnstate k s).2 := by
  unfold execBtnstate at h
  split at h
  · next k _ => exact ⟨k, (Host.Outcome.next.inj h).symm⟩
  · cases h

/-- Command words and handlers keep PHASE, and every phase writes the code of a phase (R265, R326). -/
theorem exec_phase {i : Instr} {s t : State} (h : exec i s = .next t) :
    t.phase = s.phase ∨ LegalPhase t := by
  cases i with
  | sample ch =>
    obtain ⟨k, rfl⟩ := execSample_next h
    exact .inl (portSample_phase k s)
  | btnstate id =>
    obtain ⟨k, rfl⟩ := execBtnstate_next h
    exact .inl (portBtnstate_phase k s)
  | enhint b =>
    cases h
    exact .inl (portEnhint_phase b s)
  | wdtrefresh | sethcmp | rsthtmr | sethout | setcduty | encpwm | displine
  | irqTmrovf | irqCmpmatch | irqBtn0edge | irqBtn1edge | irqBtn2edge =>
    cases h
    exact .inl rfl
  | seqSEv0Check | seqSEv1Check | seqSEv2Check | seqSEv0Confirm | seqSEv1Confirm | seqSEv2Confirm
  | seqSEv0Waitrel | seqSEv1Waitrel | seqSEv2Waitrel =>
    cases h
    right
    simp only [LegalPhase, checkEvent_phase, confirmEvent_phase, waitRelease_phase]
    split <;> decide
  | seqSWdt | seqSSamp0 | seqSSamp1 | seqSSamp2 | seqSEv0Settle | seqSEv0Relsettle | seqSEv1Settle
  | seqSEv1Relsettle | seqSEv2Settle | seqSEv2Relsettle | seqSRender | seqSExec0 | seqSExec1
  | seqSExec2 | seqSExec3 | seqSExec4 | seqSPace =>
    cases h
    right
    simp [LegalPhase]

/-- PHASE never leaves the codes 0 to 25, whichever agent steps (R43, R113). -/
theorem step_keeps_legalPhase {s t : State} (hs : LegalPhase s) (h : step s = .next t) :
    LegalPhase t := by
  obtain ⟨w, i, _, _, hexec⟩ | ⟨a, _, rfl⟩ := step_cases h
  · obtain hkeep | hlegal := exec_phase hexec
    · simpa [LegalPhase, hkeep] using hs
    · exact hlegal
  · rw [LegalPhase, takeStep_phase]
    split
    · decide
    · simpa using hs

/-- Settles O6: the decoder's clauses by the tables of its codes, the step clauses by the turn and by
what every operation does to PHASE. -/
theorem reservedPhasesAndIndicesRefused : Obligations.ReservedPhasesAndIndicesRefused :=
  ⟨decodePH_reserved,
    fun _ => exists_decodePH,
    fun _ hcmd hoffer hpend hphase =>
      step_of_decode_error (nextTurn_seq hcmd hoffer hpend) (decodePH_reserved _ hphase),
    by decide,
    fun _ _ => step_keeps_legalPhase,
    fun _ _ => pendingSource_le,
    PortEvent.instr_ne_reservedIndex,
    decodeEV_reserved,
    fun _ => exists_decodeEV,
    rfl, rfl,
    fun _ => ⟨rfl, rfl⟩,
    decode_displine_word⟩

end Machine

end Sys2Proof

/-! SUPPORT. Button events of 40_debounce_events: what an edge on a button does to its latch and to the
dispatcher, which steps write BTNR, and the shapes of the event phases with their bits written out. -/

namespace Sys2Proof.Machine

/-! ### The dispatcher after a latch is set -/

theorem requested_setLatch (s : State) (n m : Fin 5) (b : Bool) :
    requested (s.setLatch n b) m = if m = n then b && sourceEnabled s n else requested s m := by
  have henabled : sourceEnabled (s.setLatch n b) m = sourceEnabled s m := rfl
  by_cases h : m = n
  · subst h; simp [requested, henabled]
  · simp [requested, henabled, h]

theorem requested_eq_false_of_pendingSource_none {s : State} (h : pendingSource s = none) (n : Fin 5) :
    requested s n = false := by
  obtain ⟨_, hall⟩ | ⟨_, hsome, _⟩ := pendingSource_cases s
  · exact hall n
  · simp [h] at hsome

/-- With nothing requested, an enabled source whose latch gets set is the one served (R317, R318). -/
theorem pendingSource_setLatch {s : State} (hnone : pendingSource s = none) (n : Fin 5)
    (henabled : sourceEnabled s n = true) :
    pendingSource (s.setLatch n true) = some (BitVec.ofNat 3 n) := by
  obtain ⟨_, hall⟩ | ⟨m, hsome, hreq, _⟩ := pendingSource_cases (s.setLatch n true)
  · have hquiet := hall n
    simp [requested_setLatch, henabled] at hquiet
  · have hmn : m = n := by
      by_contra hne
      rw [requested_setLatch, if_neg hne, requested_eq_false_of_pendingSource_none hnone m] at hreq
      cases hreq
    rw [hsome, hmn]

theorem nextTurn_of_pendingSource {s : State} {n : SourceNumber} (hcmd : s.cmd = none)
    (hoffer : offer s ≠ .other .reset) (hpend : pendingSource s = some n) :
    nextTurn s = .run (.ev n) := by
  obtain ⟨hreset, _⟩ | ⟨_, m, hm, hturn⟩ | ⟨_, hnone, _⟩ | ⟨_, _, _, hnone, _⟩ :=
    nextTurn_cases s hcmd
  · exact absurd hreset hoffer
  · rw [hturn, Option.some.inj (hm.symm.trans hpend)]
  · simp [hpend] at hnone
  · simp [hpend] at hnone

/-! ### The turn of a step without an encoding -/

theorem nextTurn_take {s : State} {a : UnencodedStep} (hcmd : s.cmd = none)
    (hoffer : offer s = .other a) (hpend : pendingSource s = none) : nextTurn s = .take a := by
  cases a <;> simp [nextTurn, hcmd, hoffer, hpend]

theorem step_of_nextTurn_take {s : State} {a : UnencodedStep} (hturn : nextTurn s = .take a) :
    step s = .next (takeStep a (beginTurn (.take a) s)) := by
  simp [step, hturn]

theorem beginTurn_take (a : UnencodedStep) (s : State) :
    beginTurn (.take a) s =
      { s with port := [], clock := s.clock + 1, agenda := s.agenda.tail } := rfl

theorem pendingSource_beginTurn_take (a : UnencodedStep) (s : State) :
    pendingSource (beginTurn (.take a) s) = pendingSource s := rfl

/-! ### ENV_BTN -/

theorem buttonSource_val : ∀ k : Fin 3, (buttonSource k).val = 2 + k.val := by decide

theorem sourceEnabled_buttonSource (s : State) (k : Fin 3) : sourceEnabled s (buttonSource k) = true := by
  match k with
  | 0 | 1 | 2 => rfl

/-- After ENV_BTN the button has the level given, the other buttons theirs (R131). -/
theorem btn_envBtn (k j : Fin 3) (v : Bool) (s : State) :
    (envBtn k v s).btn j = if j = k then v else s.btn j := by
  by_cases h : s.btn k = v
  · rw [envBtn_same k v s h]
    split
    · next hjk => rw [hjk, h]
    · rfl
  · rw [envBtn_edge k v s h]
    exact btn_setBtn s k j v

/-- A change of level in either direction sets IF[2 + k], and no other latch moves (R131). -/
theorem ifr_envBtn (k : Fin 3) (v : Bool) (s : State) (n : Nat) :
    (envBtn k v s).ifr.getLsbD n =
      if n = 2 + k.val ∧ s.btn k ≠ v then true else s.ifr.getLsbD n := by
  by_cases h : s.btn k = v
  · simp [envBtn_same k v s h, h]
  · rw [envBtn_edge k v s h]
    rw [getLsbD_setBit _ _ _ _ (buttonSource k).isLt, buttonSource_val]
    simp [h]

/-- ENV_BTN writes BTNR and IFR alone. -/
theorem envBtn_frame (k : Fin 3) (v : Bool) (s : State) :
    envBtn k v s = { s with btnr := (envBtn k v s).btnr, ifr := (envBtn k v s).ifr } := by
  by_cases h : s.btn k = v
  · rw [envBtn_same k v s h]
  · rw [envBtn_edge k v s h]

/-- With nothing requested before, an edge on button `k` makes source 2 + k the one served. -/
theorem pendingSource_envBtn {k : Fin 3} {v : Bool} {s : State} (hnone : pendingSource s = none)
    (hedge : s.btn k ≠ v) : pendingSource (envBtn k v s) = some (BitVec.ofNat 3 (2 + k.val)) := by
  have hset : envBtn k v s = (s.setBtn k v).setLatch (buttonSource k) true := if_neg hedge
  have hbefore : pendingSource (s.setBtn k v) = none := hnone
  rw [hset, pendingSource_setLatch hbefore _ (sourceEnabled_buttonSource _ k), buttonSource_val]

/-! ### Which steps write BTNR -/

@[simp] theorem portEnhint_btnr (b : BitVec 1) (s : State) : (portEnhint b s).btnr = s.btnr := by
  by_cases hb : b = 1#1 <;> simp [portEnhint, hb]

theorem checkEvent_btnr (k : Fin 3) (settle next : PhaseCode) (s : State) :
    (checkEvent k settle next s).btnr = s.btnr := by
  by_cases h : s.pendBit k = true <;> simp [checkEvent, h]

theorem confirmEvent_btnr (k : Fin 3) {action : State → State} (waitrel next : PhaseCode) (s : State)
    (haction : ∀ s, (action s).btnr = s.btnr) :
    (confirmEvent k action waitrel next s).btnr = s.btnr := by
  cases h : s.btn k with
  | true => rw [confirmEvent_released _ _ _ _ _ h]
  | false => rw [confirmEvent_asserted _ _ _ _ _ h, State.setPhase_btnr, haction]

theorem waitRelease_btnr (k : Fin 3) (waitrel relsettle : PhaseCode) (s : State) :
    (waitRelease k waitrel relsettle s).btnr = s.btnr := by
  cases h : s.btn k with
  | true => rw [waitRelease_released _ _ _ _ h]
  | false => rw [waitRelease_held _ _ _ _ h]

theorem renderRows_btnr (s : State) : (renderRows s).btnr = s.btnr := by
  rw [renderRows_eq]

theorem actionStep1_btnr (a : Action) (s : State) : (actionStep1 a s).btnr = s.btnr := by
  cases a with
  | off | idle => exact portEnhint_btnr 0#1 s
  | heat | cool => rfl

theorem actionStep2_btnr (a : Action) (s : State) : (actionStep2 a s).btnr = s.btnr := by
  cases a with
  | cool => exact portEnhint_btnr 0#1 s
  | off | heat | idle => rfl

theorem actionStep3_btnr (a : Action) (s : State) : (actionStep3 a s).btnr = s.btnr := by
  cases a with
  | heat => exact portEnhint_btnr 1#1 s
  | off | cool | idle => rfl

theorem actionStep4_btnr (a : Action) (s : State) : (actionStep4 a s).btnr = s.btnr := by
  cases a <;> rfl

/-- No encoded operation writes a button level: BTNR is the environment's (R131). -/
theorem exec_btnr {i : Instr} {s t : State} (h : exec i s = .next t) : t.btnr = s.btnr := by
  cases i with
  | sample ch =>
    obtain ⟨k, rfl⟩ := execSample_next h
    rfl
  | btnstate id =>
    obtain ⟨k, rfl⟩ := execBtnstate_next h
    rfl
  | enhint b => cases h; exact portEnhint_btnr b s
  | seqSEv0Check | seqSEv1Check | seqSEv2Check => cases h; exact checkEvent_btnr ..
  | seqSEv0Confirm | seqSEv1Confirm | seqSEv2Confirm =>
    cases h
    exact confirmEvent_btnr _ _ _ _ fun _ => rfl
  | seqSEv0Waitrel | seqSEv1Waitrel | seqSEv2Waitrel => cases h; exact waitRelease_btnr ..
  | seqSRender => cases h; exact renderRows_btnr s
  | seqSExec1 => cases h; exact actionStep1_btnr ..
  | seqSExec2 => cases h; exact actionStep2_btnr ..
  | seqSExec3 => cases h; exact actionStep3_btnr ..
  | seqSExec4 => cases h; exact actionStep4_btnr ..
  | wdtrefresh | sethcmp | rsthtmr | sethout | setcduty | encpwm | displine
  | irqTmrovf | irqCmpmatch | irqBtn0edge | irqBtn1edge | irqBtn2edge
  | seqSWdt | seqSSamp0 | seqSSamp1 | seqSSamp2 | seqSEv0Settle | seqSEv0Relsettle | seqSEv1Settle
  | seqSEv1Relsettle | seqSEv2Settle | seqSEv2Relsettle | seqSExec0 | seqSPace =>
    cases h
    rfl

@[simp] theorem beginTurn_btnr (t : Turn) (s : State) : (beginTurn t s).btnr = s.btnr := by
  cases t with
  | run w => cases w <;> rfl
  | take a => rfl

@[simp] theorem htick_btnr (s : State) : (htick s).btnr = s.btnr := by
  simp only [htick]
  split_ifs <;> rfl

/-- A step that changes BTNR is RESET or the environment moving a button (R131, R350). -/
theorem btnr_writers {u w : State} (h : step u = .next w) (hne : w.btnr ≠ u.btnr) :
    nextTurn u = .take .reset ∨ ∃ j b, nextTurn u = .take (.envBtn j b) := by
  obtain ⟨x, i, _, _, hexec⟩ | ⟨a, hturn, rfl⟩ := step_cases h
  · exact absurd ((exec_btnr hexec).trans (beginTurn_btnr _ u)) hne
  · cases a with
    | htick => exact absurd (htick_btnr _) hne
    | ctick => exact absurd rfl hne
    | envBtn k v => exact .inr ⟨k, v, hturn⟩
    | envAdc k v => exact absurd rfl hne
    | reset => exact .inl hturn

/-- Settles O35: the step takes ENV_BTN, whose effect and frame are said above; the writers of BTNR are
`btnr_writers`. -/
theorem buttonEdgeSetsItsLatch : Obligations.ButtonEdgeSetsItsLatch := by
  intro s k v hcmd hoffer hpend
  have hstep := step_of_nextTurn_take (nextTurn_take hcmd hoffer hpend)
  have hbegin := pendingSource_beginTurn_take (.envBtn k v) s
  rw [beginTurn_take] at hstep hbegin
  refine ⟨_, hstep, fun j => btn_envBtn k j v _, fun n _ => ifr_envBtn k v _ n, envBtn_frame k v _,
    fun hedge hreset => ?_, fun _ _ => btnr_writers⟩
  refine nextTurn_of_pendingSource ?_ hreset (pendingSource_envBtn (hbegin.trans hpend) hedge)
  rw [takeStep, envBtn_frame]
  exact hcmd

/-! ### The handlers of the button sources -/

/-- The handler of button `k` sets PEND[k] and clears IF[2 + k], and writes nothing else (R133 to R135). -/
theorem serveInterrupt_button (k : Fin 3) (s : State) :
    serveInterrupt (buttonSource k) (fun s => s.setPend k true) s =
      { s with
        pend := s.pend ||| BitVec.twoPow 3 k
        ifr := s.ifr &&& ~~~(BitVec.twoPow 5 (buttonSource k)) } := rfl

/-- Settles O19: the three handlers are one shape, at k = 0, 1, 2, and the masks evaluate to the
literals. -/
theorem buttonHandlersSetOneFlagAndNothingElse : Obligations.ButtonHandlersSetOneFlagAndNothingElse :=
  fun s => ⟨congrArg Host.Outcome.next (serveInterrupt_button 0 s),
    congrArg Host.Outcome.next (serveInterrupt_button 1 s),
    congrArg Host.Outcome.next (serveInterrupt_button 2 s)⟩

/-! ### CHECK, CONFIRM and WAITREL -/

/-- CHECK clears the flag only where it finds it set (R92). -/
theorem checkEvent_eq (k : Fin 3) (settle next : PhaseCode) (s : State) :
    checkEvent k settle next s =
      if s.pend.getLsbD k = true then
        { s with pend := s.pend &&& ~~~(BitVec.twoPow 3 k), phase := settle }
      else { s with phase := next } := by
  cases h : s.pend.getLsbD k with
  | true => rw [checkEvent_set k settle next s h]; rfl
  | false => rw [checkEvent_clear k settle next s h]; rfl

/-- Settles O22: the three phases are one shape, at k = 0, 1, 2, and the masks evaluate to the
literals. -/
theorem checkPhasesTestAndClearOnce : Obligations.CheckPhasesTestAndClearOnce :=
  fun s => ⟨congrArg Host.Outcome.next (checkEvent_eq 0 sEv0Settle sEv1Check s),
    congrArg Host.Outcome.next (checkEvent_eq 1 sEv1Settle sEv2Check s),
    congrArg Host.Outcome.next (checkEvent_eq 2 sEv2Settle sRender s)⟩

/-- MODE and HYS count modulo 4 because they have two bits. -/
theorem add_one_eq_ofNat_mod_four :
    ∀ v : BitVec 2, v + 1#2 = BitVec.ofNat 2 ((v.toNat + 1) % 4) := by decide

theorem advanceMode_eq (s : State) :
    advanceMode s = { s with mode := BitVec.ofNat 2 ((s.mode.toNat + 1) % 4) } := by
  rw [advanceMode, add_one_eq_ofNat_mod_four]; rfl

theorem advanceHysteresis_eq (s : State) :
    advanceHysteresis s = { s with hys := BitVec.ofNat 2 ((s.hys.toNat + 1) % 4) } := by
  rw [advanceHysteresis, add_one_eq_ofNat_mod_four]; rfl

/-- Settles O23, by the level of button 0. -/
theorem confirmedModeChangeAdvancesMode : Obligations.ConfirmedModeChangeAdvancesMode := by
  refine fun s => ⟨fun hasserted => congrArg Host.Outcome.next ?_,
    fun hreleased => congrArg Host.Outcome.next ?_⟩
  · rw [confirmEvent_asserted 0 advanceMode _ _ s hasserted, advanceMode_eq]; rfl
  · exact confirmEvent_released 0 advanceMode _ _ s hreleased

/-- Settles O24, by the level of button 1. -/
theorem confirmedHysteresisChangeAdvancesLevel : Obligations.ConfirmedHysteresisChangeAdvancesLevel := by
  refine fun s => ⟨fun hasserted => congrArg Host.Outcome.next ?_,
    fun hreleased => congrArg Host.Outcome.next ?_⟩
  · rw [confirmEvent_asserted 1 advanceHysteresis _ _ s hasserted, advanceHysteresis_eq]; rfl
  · exact confirmEvent_released 1 advanceHysteresis _ _ s hreleased

/-- Settles O25, by the level of button 2. -/
theorem confirmedOffRequestForcesOff : Obligations.ConfirmedOffRequestForcesOff := by
  refine fun s => ⟨fun hasserted => congrArg Host.Outcome.next ?_,
    fun hreleased => congrArg Host.Outcome.next ?_⟩
  · exact confirmEvent_asserted 2 forceOff _ _ s hasserted
  · exact confirmEvent_released 2 forceOff _ _ s hreleased

/-- WAITREL refreshes and reads the button, and leaves only when it reads released (R136). -/
theorem waitRelease_eq (k : Fin 3) (waitrel relsettle : PhaseCode) (s : State) :
    waitRelease k waitrel relsettle s =
      { s with
        port := s.port ++ [.wdtrefresh, .btnstate k (decide (s.btnr.getLsbD k = false))]
        phase := if s.btnr.getLsbD k = true then relsettle else waitrel } := by
  cases h : s.btnr.getLsbD k with
  | true => rw [waitRelease_released k waitrel relsettle s h]; rfl
  | false => rw [waitRelease_held k waitrel relsettle s h]; rfl

/-- Settles O26: the three phases are one shape, at k = 0, 1, 2. -/
theorem waitReleaseRepeatsUntilReleased : Obligations.WaitReleaseRepeatsUntilReleased :=
  fun s => ⟨congrArg Host.Outcome.next (waitRelease_eq 0 sEv0Waitrel sEv0Relsettle s),
    congrArg Host.Outcome.next (waitRelease_eq 1 sEv1Waitrel sEv1Relsettle s),
    congrArg Host.Outcome.next (waitRelease_eq 2 sEv2Waitrel sEv2Relsettle s)⟩

end Sys2Proof.Machine

/-! SUPPORT. The derived measurements and the comparator of 41_sensor_derivation: one formula and one
range lemma over the sample's full scale, one lemma per decision, and O39 and O40 assembled from them. -/

namespace Sys2Proof.Machine

/-! ### The derived measurements -/

theorem setpoint_eq (r : Sample) : setpoint r = (r.toNat : Rat) * 100 / 1023 := by
  unfold setpoint voltage; ring

theorem controlPercent_eq (r : Sample) : controlPercent r = (r.toNat : Rat) * 100 / 1023 := by
  unfold controlPercent voltage; ring

theorem temperature_eq (r : Sample) : temperature r = (r.toNat : Rat) * 500 / 1023 := by
  unfold temperature voltage; ring

/-- A sample is at most 1023, so a measurement of full scale `c` stays in [0, c] without a clamp. -/
theorem scaled_sample_mem_Icc (r : Sample) {c : Rat} (hc : 0 ≤ c) :
    (r.toNat : Rat) * c / 1023 ∈ Set.Icc 0 c := by
  have hr : (r.toNat : Rat) ≤ 1023 := by exact_mod_cast Nat.le_of_lt_succ r.isLt
  refine ⟨by positivity, ?_⟩
  calc (r.toNat : Rat) * c / 1023 ≤ 1023 * c / 1023 := by gcongr
    _ = c := mul_div_cancel_left₀ c (by norm_num)

theorem voltage_mem_Icc (r : Sample) : voltage r ∈ Set.Icc 0 5 :=
  scaled_sample_mem_Icc r (by norm_num)

theorem setpoint_mem_Icc (r : Sample) : setpoint r ∈ Set.Icc 0 100 :=
  setpoint_eq r ▸ scaled_sample_mem_Icc r (by norm_num)

theorem controlPercent_mem_Icc (r : Sample) : controlPercent r ∈ Set.Icc 0 100 :=
  controlPercent_eq r ▸ scaled_sample_mem_Icc r (by norm_num)

theorem temperature_mem_Icc (r : Sample) : temperature r ∈ Set.Icc 0 500 :=
  temperature_eq r ▸ scaled_sample_mem_Icc r (by norm_num)

theorem voltage_lt_voltage {r q : Sample} (h : r < q) : voltage r < voltage q := by
  have hrq : (r.toNat : Rat) < q.toNat := Nat.cast_lt.mpr h
  unfold voltage
  gcongr

/-- T exceeds 100 at 102300 / 500 = 204.6 and above, so from the sample 205 on (R163). -/
theorem hundred_lt_temperature_iff (r : Sample) : 100 < temperature r ↔ 205 ≤ r.toNat := by
  have hcross : 100 < temperature r ↔ 100 * 1023 < r.toNat * 500 := by
    rw [temperature_eq, lt_div_iff₀ (by norm_num)]; norm_cast
  rw [hcross]; omega

/-- Settles O39: the formulas, ranges and order lemmas, and the end points by evaluation. -/
theorem derivedValuesFollowTheirFormulas : Obligations.DerivedValuesFollowTheirFormulas := by
  refine ⟨fun r => ?_, fun _ _ h => voltage_lt_voltage h, ?_⟩
  · obtain ⟨hv0, hv5⟩ := voltage_mem_Icc r
    obtain ⟨hs0, hs100⟩ := setpoint_mem_Icc r
    obtain ⟨hc0, hc100⟩ := controlPercent_mem_Icc r
    obtain ⟨ht0, ht500⟩ := temperature_mem_Icc r
    exact ⟨rfl, hv0, hv5, setpoint_eq r, hs0, hs100, controlPercent_eq r, hc0, hc100,
      temperature_eq r, ht0, ht500, hundred_lt_temperature_iff r⟩
  · norm_num [voltage, setpoint_eq, temperature_eq]

/-! ### The comparator -/

theorem bandWidth_nonneg (h : BitVec 2) : 0 ≤ bandWidth h := Nat.cast_nonneg _

theorem autoCool_of_above {t sp : Rat} (h : BitVec 2) (habove : sp < t) :
    autoCool t sp h = .cool :=
  if_pos (sub_pos.mpr habove)

/-- At or below the setpoint the first test fails, so the band alone decides (R166). -/
theorem autoCool_of_not_above {t sp : Rat} (h : BitVec 2) (hle : t ≤ sp) :
    autoCool t sp h = if t < sp - bandWidth h then .heat else .idle :=
  if_neg (not_lt.mpr (sub_nonpos.mpr hle))

/-- The band is not of negative width, so below it is below the setpoint too. -/
theorem autoCool_of_below {t sp : Rat} {h : BitVec 2} (hbelow : t < sp - bandWidth h) :
    autoCool t sp h = .heat := by
  have hle : t ≤ sp := hbelow.le.trans (sub_le_self sp (bandWidth_nonneg h))
  rw [autoCool_of_not_above h hle, if_pos hbelow]

theorem autoCool_of_inside {t sp : Rat} {h : BitVec 2} (hlow : sp - bandWidth h ≤ t) (hle : t ≤ sp) :
    autoCool t sp h = .idle := by
  rw [autoCool_of_not_above h hle, if_neg (not_lt.mpr hlow)]

/-- Settles O40, one lemma for each decision. -/
theorem comparatorDecidesByTheBand : Obligations.ComparatorDecidesByTheBand :=
  fun _ _ h => ⟨rfl, autoCool_of_above h, autoCool_of_below, autoCool_of_inside⟩

end Sys2Proof.Machine

/-! SUPPORT. The two counters of 42_heater_timing: the tick of the heater timer with its latches, the
handlers of the heater sources, and the tick and the wire of the cooler PWM. -/

namespace Sys2Proof.Machine

/-! ### Counting modulo the width of a register -/

theorem add_one_eq_ofNat_mod {w : Nat} (v : BitVec w) :
    v + 1#w = BitVec.ofNat w ((v.toNat + 1) % 2 ^ w) :=
  BitVec.eq_of_toNat_eq (by simp)

theorem add_one_eq_iff {w : Nat} (v c : BitVec w) :
    v + 1#w = c ↔ (v.toNat + 1) % 2 ^ w = c.toNat := by
  rw [← BitVec.toNat_inj]; simp

theorem add_one_eq_zero_iff (v : Count) : v + 1#16 = 0#16 ↔ v.toNat = 65535 := by
  have hv : v.toNat < 65536 := v.isLt
  rw [add_one_eq_iff, BitVec.toNat_ofNat]
  omega

/-! ### The heater timer -/

theorem setLatch_of_prop (s : State) (n : Fin 5) (p : Prop) [Decidable p] :
    (if p then s.setLatch n true else s) =
      { s with ifr := s.ifr ||| (if p then BitVec.twoPow 5 n else 0#5) } := by
  by_cases hp : p
  · rw [if_pos hp, if_pos hp]; rfl
  · rw [if_neg hp, if_neg hp, BitVec.or_zero]

/-- HTICK writes HTMR and, in IFR, at most the overflow and the match latch; its tests on the new value
are tests on the number (R181 to R183). -/
theorem htick_eq (s : State) :
    htick s = { s with
      htmr := BitVec.ofNat 16 ((s.htmr.toNat + 1) % 65536)
      ifr := s.ifr ||| (if s.htmr.toNat = 65535 ∧ s.hie = true then 0b00001#5 else 0#5) |||
        (if (s.htmr.toNat + 1) % 65536 = s.hcmp.toNat ∧ s.hie = true then 0b00010#5 else 0#5) } := by
  -- The wrap test goes first: the general `add_one_eq_iff` would rewrite it too.
  simp only [htick, setLatch_of_prop, add_one_eq_zero_iff]
  simp only [add_one_eq_iff]
  rw [add_one_eq_ofNat_mod]
  rfl

/-- Settles O33: the turn takes HTICK, whose effect and frame are `htick_eq`. -/
theorem heaterTickCountsAndLatches : Obligations.HeaterTickCountsAndLatches := by
  intro s hcmd hoffer hpend
  rw [step_of_nextTurn_take (nextTurn_take hcmd hoffer hpend), beginTurn_take, takeStep, htick_eq]
  rfl

/-! ### The handlers of the heater sources -/

/-- R184, with the masks written out. -/
theorem serveInterrupt_overflow (s : State) :
    serveInterrupt 0 (fun s => portRsthtmr (s.setHeatOut true)) s = { s with
      hcon := s.hcon ||| 0b10#2, htmr := 0#16, ifr := s.ifr &&& 0b11110#5
      port := s.port ++ [.rsthtmr] } := rfl

/-- R185, with the masks written out. -/
theorem serveInterrupt_match (s : State) :
    serveInterrupt 1 (fun s => s.setHeatOut false) s =
      { s with hcon := s.hcon &&& 0b01#2, ifr := s.ifr &&& 0b11101#5 } := rfl

/-- Settles O18, one lemma for each handler. -/
theorem heaterHandlersDriveTheOutput : Obligations.HeaterHandlersDriveTheOutput :=
  fun s => ⟨congrArg Host.Outcome.next (serveInterrupt_overflow s),
    congrArg Host.Outcome.next (serveInterrupt_match s)⟩

/-! ### The cooler PWM counter -/

/-- Settles O34: the turn takes CTICK, and ten bits count modulo 1024. -/
theorem coolerTickCounts : Obligations.CoolerTickCounts := by
  intro s hcmd hoffer hpend
  rw [step_of_nextTurn_take (nextTurn_take hcmd hoffer hpend), beginTurn_take, takeStep, ctick,
    add_one_eq_ofNat_mod]
  rfl

/-- `n` ticks advance CPWMCNT by `n` and touch nothing else. -/
theorem iterate_ctick (n : Nat) (s : State) :
    ctick^[n] s = { s with cpwmcnt := s.cpwmcnt + BitVec.ofNat 10 n } := by
  induction n with
  | zero => simp
  | succ n ih =>
    rw [Function.iterate_succ_apply', ih, BitVec.ofNat_add, ← BitVec.add_assoc]
    rfl

/-! ### COOL_OUT -/

theorem cpwmen_iff (s : State) : s.cpwmen = true ↔ s.ccon = 1#1 := by
  have hbit : ∀ b : BitVec 1, b.getLsbD 0 = true ↔ b = 1#1 := by decide
  exact hbit s.ccon

theorem coolOut_iff (s : State) :
    s.coolOut = true ↔ s.ccon = 1#1 ∧ s.cpwmcnt.toNat < s.cduty.toNat := by
  rw [State.coolOut, Bool.and_eq_true, cpwmen_iff, decide_eq_true_iff, BitVec.lt_def]

theorem coolOut_of_disabled {s : State} (h : s.ccon = 0#1) : s.coolOut = false := by
  simp [State.coolOut, State.cpwmen, h]

theorem coolOut_iterate_ctick {s : State} (henabled : s.ccon = 1#1) (n : Nat) :
    (ctick^[n] s).coolOut = decide ((s.cpwmcnt.toNat + n) % 1024 < s.cduty.toNat) := by
  rw [Bool.eq_iff_iff, coolOut_iff, decide_eq_true_iff, iterate_ctick]
  simp [henabled]

/-- One full period, from 0: the first `d` numbers are below `d` and the rest are not. -/
theorem count_mod_lt {d m : Nat} (hd : d ≤ m) : Nat.count (fun n => n % m < d) m = d := by
  have hlow : Nat.count (fun n => n % m < d) d = d :=
    Nat.count_of_forall fun n hn => (Nat.mod_le n m).trans_lt hn
  have hhigh : Nat.count (fun k => (d + k) % m < d) (m - d) = 0 :=
    Nat.count_of_forall_not fun k hk => by
      rw [Nat.mod_eq_of_lt (by omega)]; omega
  calc Nat.count (fun n => n % m < d) m
      = Nat.count (fun n => n % m < d) (d + (m - d)) := by rw [Nat.add_sub_cancel' hd]
    _ = d := by rw [Nat.count_add, hlow, hhigh, Nat.add_zero]

/-- A predicate of period `m` holds as often in every window of `m` numbers: both sides of
`count_add` at `c + m` and `m + c` count the same interval. -/
theorem count_window_of_periodic {p : Nat → Prop} [DecidablePred p] {m : Nat}
    (hp : Function.Periodic p m) (c : Nat) : Nat.count (fun k => p (c + k)) m = Nat.count p m := by
  have hshift : Nat.count (fun k => p (m + k)) c = Nat.count p c := by
    simp only [Nat.add_comm m, hp _]
  have hleft := Nat.count_add p c m
  have hright := Nat.count_add p m c
  rw [Nat.add_comm m c] at hright
  omega

/-- With the PWM enabled, CDUTY of any 1024 ticks in a row see the wire high (R194). -/
theorem length_filter_coolOut {s : State} (henabled : s.ccon = 1#1) :
    ((List.range 1024).filter (fun n => State.coolOut (ctick^[n] s))).length = s.cduty.toNat := by
  have hperiodic : Function.Periodic (fun n => n % 1024 < s.cduty.toNat) 1024 := fun n => by
    simp only [Nat.add_mod_right]
  simp only [coolOut_iterate_ctick henabled]
  rw [← List.countP_eq_length_filter]
  exact (count_window_of_periodic hperiodic s.cpwmcnt.toNat).trans
    (count_mod_lt (Nat.le_of_lt s.cduty.isLt))

/-- When the counter stands at 1023 the wire is low, whatever the duty. -/
theorem exists_coolOut_low {s : State} (henabled : s.ccon = 1#1) :
    ∃ n : Nat, n < 1024 ∧ State.coolOut (ctick^[n] s) = false := by
  have hcount : s.cpwmcnt.toNat < 1024 := s.cpwmcnt.isLt
  have hduty : s.cduty.toNat < 1024 := s.cduty.isLt
  refine ⟨1023 - s.cpwmcnt.toNat, by omega, ?_⟩
  rw [coolOut_iterate_ctick henabled, decide_eq_false_iff_not]
  omega

/-- Settles O44: the wire by its definition, the count as that of one period of the counter. -/
theorem coolerOutputIsHighForTheDuty : Obligations.CoolerOutputIsHighForTheDuty :=
  fun s => ⟨coolOut_iff s, coolOut_of_disabled,
    fun henabled => ⟨length_filter_coolOut henabled, exists_coolOut_low henabled⟩⟩

end Sys2Proof.Machine

/-! SUPPORT. The mode machine of 43_mode_machine: the integer comparator against the exact one and the
selection by MODE, the heater compare value, and which steps write MODE. -/

namespace Sys2Proof.Machine

/-! ### The comparator in integers (R167) -/

theorem setpoint_lt_temperature_iff (raw0 raw2 : Sample) :
    setpoint raw0 < temperature raw2 ↔ raw0.toNat < 5 * raw2.toNat := by
  have hscaled : setpoint raw0 < temperature raw2 ↔ raw0.toNat * 100 < raw2.toNat * 500 := by
    rw [setpoint_eq, temperature_eq, div_lt_div_iff_of_pos_right (by norm_num)]; norm_cast
  rw [hscaled]; omega

theorem temperature_lt_band_iff (raw0 raw2 : Sample) (h : BitVec 2) :
    temperature raw2 < setpoint raw0 - bandWidth h ↔
      500 * raw2.toNat + 1023 * h.toNat < 100 * raw0.toNat := by
  have hscaled : temperature raw2 < setpoint raw0 - bandWidth h ↔
      raw2.toNat * 500 + h.toNat * 1023 < raw0.toNat * 100 := by
    rw [lt_sub_iff_add_lt, temperature_eq, setpoint_eq, bandWidth, div_add' _ _ _ (by norm_num),
      div_lt_div_iff_of_pos_right (by norm_num)]
    norm_cast
  rw [hscaled]; omega

/-- Each test of the exact comparator is the integer test at the same place. -/
theorem autoCool_measured_eq (raw0 raw2 : Sample) (h : BitVec 2) :
    autoCool (temperature raw2) (setpoint raw0) h = autoCoolRaw raw0 raw2 h := by
  simp only [autoCool, autoCoolRaw, gt_iff_lt, sub_pos, setpoint_lt_temperature_iff,
    temperature_lt_band_iff]

/-! ### The selection (R225, R226) -/

theorem select_of_off {s : State} (h : s.mode = 0#2) : select s = .off := by simp [select, h]

theorem select_of_heat {s : State} (h : s.mode = 1#2) : select s = .heat := by simp [select, h]

theorem select_of_cool {s : State} (h : s.mode = 2#2) : select s = .cool := by simp [select, h]

theorem select_of_autoCool {s : State} (h : s.mode = 3#2) :
    select s = acSelect (autoCool (temperature s.raw2) (setpoint s.raw0) s.hys) := by
  simp [select, h, autoCool_measured_eq]

theorem acSelect_iff (d : Decision) :
    (acSelect d = .cool ↔ d = .cool) ∧ (acSelect d = .heat ↔ d = .heat) ∧
      (acSelect d = .idle ↔ d = .idle) := by
  cases d <;> decide

/-- Settles O42, one lemma for each mode; the registers read are those of `select_congr`. -/
theorem actionIsSelectedByModeAndComparator : Obligations.ActionIsSelectedByModeAndComparator := by
  refine ⟨fun s => ⟨select_of_off, select_of_heat, select_of_cool, fun hmode => ?_⟩,
    fun _ _ hmode hhys hraw0 hraw2 => select_congr hmode hhys hraw0 hraw2⟩
  rw [select_of_autoCool hmode]
  exact acSelect_iff _

/-! ### The heater compare value (R228) -/

theorem toNat_heaterCompare (r : Nat) : (heaterCompare r).toNat = r * 64 % 65536 :=
  BitVec.toNat_ofNat _ _

/-- Ten bits shifted by six fit into sixteen. -/
theorem toNat_sethcmpOperand (s : State) : (sethcmpOperand s).toNat = s.raw1.toNat * 64 := by
  have hraw : s.raw1.toNat < 1024 := s.raw1.isLt
  rw [sethcmpOperand, toNat_heaterCompare, Nat.mod_eq_of_lt (by omega)]

theorem sethcmpOperand_low_bits (s : State) : sethcmpOperand s &&& 0b111111#16 = 0#16 := by
  apply BitVec.eq_of_toNat_eq
  calc (sethcmpOperand s &&& 0b111111#16).toNat
      = s.raw1.toNat * 64 &&& (2 ^ 6 - 1) := by rw [BitVec.toNat_and, toNat_sethcmpOperand]; rfl
    _ = s.raw1.toNat * 64 % 2 ^ 6 := Nat.and_two_pow_sub_one_eq_mod _ 6
    _ = 0 := Nat.mul_mod_left _ _

/-- Settles O43: the wrap is that of sixteen bits, and a sample is below 1024. -/
theorem compareValueWrapsAndNeverSaturates : Obligations.CompareValueWrapsAndNeverSaturates := by
  refine ⟨toNat_heaterCompare, fun s => ⟨toNat_sethcmpOperand s, ?_, sethcmpOperand_low_bits s⟩⟩
  have hraw : s.raw1.toNat < 1024 := s.raw1.isLt
  omega

/-! ### What a command word may write -/

/-- `t` is `s` except for the registers that R280 lets a command word write, and the port record. -/
def SameButDrives (s t : State) : Prop :=
  t = { s with
    htmr := t.htmr, hcmp := t.hcmp, hcon := t.hcon, cduty := t.cduty, ccon := t.ccon, ifr := t.ifr
    port := t.port }

theorem SameButDrives.mode {s t : State} (h : SameButDrives s t) : t.mode = s.mode := by
  unfold SameButDrives at h
  rw [h]

theorem portEnhint_sameButDrives (b : BitVec 1) (s : State) : SameButDrives s (portEnhint b s) := by
  obtain rfl | rfl := BitVec.eq_zero_or_eq_one b
  · rw [portEnhint_zero]; rfl
  · rw [portEnhint_one]; rfl

/-- The four steps of an action after its flags are one command word each (R221 to R224). -/
theorem actionSteps_sameButDrives (a : Action) (s : State) :
    SameButDrives s (actionStep1 a s) ∧ SameButDrives s (actionStep2 a s) ∧
      SameButDrives s (actionStep3 a s) ∧ SameButDrives s (actionStep4 a s) := by
  cases a with
  | off | idle => exact ⟨portEnhint_sameButDrives 0#1 s, rfl, rfl, rfl⟩
  | heat => exact ⟨rfl, rfl, portEnhint_sameButDrives 1#1 s, rfl⟩
  | cool => exact ⟨rfl, portEnhint_sameButDrives 0#1 s, rfl, rfl⟩

/-! ### Which steps write MODE (R210) -/

theorem checkEvent_mode (k : Fin 3) (settle next : PhaseCode) (s : State) :
    (checkEvent k settle next s).mode = s.mode := by
  rw [checkEvent_eq]
  split <;> rfl

theorem waitRelease_mode (k : Fin 3) (waitrel relsettle : PhaseCode) (s : State) :
    (waitRelease k waitrel relsettle s).mode = s.mode := by
  rw [waitRelease_eq]

theorem renderRows_mode (s : State) : (renderRows s).mode = s.mode := by rw [renderRows_eq]

/-- CONFIRM writes of MODE what its action writes, and nothing if the button reads released. -/
theorem confirmEvent_mode (k : Fin 3) (action : State → State) (waitrel next : PhaseCode) (s : State) :
    (confirmEvent k action waitrel next s).mode =
      if s.btn k = true then s.mode else (action { s with port := s.port ++ [.btnstate k true] }).mode := by
  cases h : s.btn k with
  | true => rw [confirmEvent_released _ _ _ _ _ h, if_pos rfl]
  | false => rw [confirmEvent_asserted _ _ _ _ _ h]; rfl

/-- What an operation does to MODE: a confirmed mode-change advances it, a confirmed off-request clears
it, and every other operation, the AutoCool decision included, keeps it (R210). -/
theorem exec_mode {i : Instr} {s t : State} (h : exec i s = .next t) :
    t.mode = s.mode ∨ (i = .seqSEv0Confirm ∧ s.btn 0 = false ∧ t.mode = s.mode + 1#2) ∨
      (i = .seqSEv2Confirm ∧ s.btn 2 = false ∧ t.mode = 0#2) := by
  cases i with
  | seqSEv0Confirm =>
    cases h
    rw [confirmEvent_mode]
    cases hbtn : s.btn 0 with
    | true => exact .inl rfl
    | false => exact .inr (.inl ⟨rfl, rfl, rfl⟩)
  | seqSEv2Confirm =>
    cases h
    rw [confirmEvent_mode]
    cases hbtn : s.btn 2 with
    | true => exact .inl rfl
    | false => exact .inr (.inr ⟨rfl, rfl, rfl⟩)
  | seqSEv1Confirm =>
    cases h
    left
    rw [confirmEvent_mode]
    split <;> rfl
  | sample ch =>
    obtain ⟨k, rfl⟩ := execSample_next h
    exact .inl rfl
  | btnstate id =>
    obtain ⟨k, rfl⟩ := execBtnstate_next h
    exact .inl rfl
  | enhint b => cases h; exact .inl (portEnhint_sameButDrives b s).mode
  | seqSEv0Check | seqSEv1Check | seqSEv2Check => cases h; exact .inl (checkEvent_mode ..)
  | seqSEv0Waitrel | seqSEv1Waitrel | seqSEv2Waitrel => cases h; exact .inl (waitRelease_mode ..)
  | seqSRender => cases h; exact .inl (renderRows_mode s)
  | seqSExec1 | seqSExec2 | seqSExec3 | seqSExec4 =>
    cases h
    obtain ⟨h1, h2, h3, h4⟩ := actionSteps_sameButDrives (select s) s
    left
    simp [h1.mode, h2.mode, h3.mode, h4.mode]
  | wdtrefresh | sethcmp | rsthtmr | sethout | setcduty | encpwm | displine
  | irqTmrovf | irqCmpmatch | irqBtn0edge | irqBtn1edge | irqBtn2edge
  | seqSWdt | seqSSamp0 | seqSSamp1 | seqSSamp2 | seqSEv0Settle | seqSEv0Relsettle | seqSEv1Settle
  | seqSEv1Relsettle | seqSEv2Settle | seqSEv2Relsettle | seqSExec0 | seqSPace =>
    cases h
    exact .inl rfl

theorem htick_mode (s : State) : (htick s).mode = s.mode := by rw [htick_eq]

theorem envBtn_mode (k : Fin 3) (v : Bool) (s : State) : (envBtn k v s).mode = s.mode := by
  rw [envBtn_frame]

/-- Of the steps without an encoding RESET alone writes MODE (R326, R350). -/
theorem takeStep_mode (a : UnencodedStep) (s : State) :
    (takeStep a s).mode = if a = .reset then 0#2 else s.mode := by
  cases a with
  | htick => exact htick_mode s
  | envBtn k v => exact envBtn_mode k v s
  | ctick | envAdc | reset => rfl

@[simp] theorem beginTurn_mode (t : Turn) (s : State) : (beginTurn t s).mode = s.mode := by
  cases t with
  | run w => cases w <;> rfl
  | take a => rfl

@[simp] theorem beginTurn_btn (t : Turn) (s : State) (k : Fin 3) : (beginTurn t s).btn k = s.btn k := by
  rw [State.btn, beginTurn_btnr, State.btn]

/-! ### The word of a phase -/

theorem nextTurn_ne_cw {s : State} (hcmd : s.cmd = none) (c : CmdWord) : nextTurn s ≠ .run (.cw c) := by
  obtain ⟨_, hturn⟩ | ⟨_, _, _, hturn⟩ | ⟨_, _, hturn⟩ | ⟨_, _, _, _, hturn⟩ := nextTurn_cases s hcmd
  all_goals simp [hturn]

theorem encode_of_decodeEV {n : SourceNumber} {i : Instr} (h : decodeEV n = .ok i) : encode i = .ev n := by
  have htable : ∀ n : SourceNumber,
      (decodeEV n).map encode = .ok (.ev n) ∨ (decodeEV n).isOk = false := by decide
  simpa [h, Except.map, Except.isOk, Except.toBool] using htable n

theorem encode_of_decodePH {p : PhaseCode} {i : Instr} (h : decodePH p = .ok i) : encode i = .ph p := by
  have htable : ∀ p : PhaseCode,
      (decodePH p).map encode = .ok (.ph p) ∨ (decodePH p).isOk = false := by decide
  simpa [h, Except.map, Except.isOk, Except.toBool] using htable p

/-- With no command word presented, a turn that runs a word runs the one word of its operation. -/
theorem word_eq_encode {s : State} {w : Word} {i : Instr} (hcmd : s.cmd = none)
    (hturn : nextTurn s = .run w) (hdec : decode w = .ok i) : w = encode i := by
  cases w with
  | cw c => exact absurd hturn (nextTurn_ne_cw hcmd c)
  | ev n => exact (encode_of_decodeEV hdec).symm
  | ph p => exact (encode_of_decodePH hdec).symm

/-- Settles O51: an encoded step by what its operation does to MODE, any other by `takeStep_mode`. -/
theorem modeChangesOnlyByConfirmedEvents : Obligations.ModeChangesOnlyByConfirmedEvents := by
  intro s t hcmd hstep hne
  obtain ⟨w, i, hturn, hdec, hexec⟩ | ⟨a, hturn, rfl⟩ := step_cases hstep
  · obtain rfl := word_eq_encode hcmd hturn hdec
    have hmode := exec_mode hexec
    simp only [beginTurn_mode, beginTurn_btn] at hmode
    obtain hkeep | ⟨rfl, hbtn, hadvance⟩ | ⟨rfl, hbtn, hoff⟩ := hmode
    · exact absurd hkeep hne
    · exact .inl ⟨hturn, hbtn, by rw [hadvance, BitVec.toNat_add]; rfl⟩
    · exact .inr (.inl ⟨hturn, hbtn, hoff⟩)
  · rw [takeStep_mode, beginTurn_mode] at hne ⊢
    by_cases ha : a = .reset
    · exact .inr (.inr ⟨ha ▸ hturn, if_pos ha⟩)
    · exact absurd (if_neg ha) hne

end Sys2Proof.Machine

/-! SUPPORT. The sequencer phases of 44_sequencer that are no event phases: the refresh and sampling
shapes, the display rows, and the five phases of an action, read off the action selected. -/

namespace Sys2Proof.Machine

/-! ### Refresh and sampling phases -/

/-- Settles O20: the eight phases are one shape, at the eight successors. -/
theorem refreshPhasesRefreshAndAdvance : Obligations.RefreshPhasesRefreshAndAdvance := by
  intro s
  have hshape (next : PhaseCode) : (.next (refreshThen next s) : Host.Outcome State Fault Refusal) =
      .next { s with port := s.port ++ [.wdtrefresh], phase := next } := by rw [refreshThen_eq]
  exact ⟨hshape sSamp0, hshape sEv0Confirm, hshape sEv1Check, hshape sEv1Confirm, hshape sEv2Check,
    hshape sEv2Confirm, hshape sRender, hshape sWdt⟩

/-- Settles O21: the three phases are one shape, at k = 0, 1, 2. -/
theorem samplePhasesStoreTheInput : Obligations.SamplePhasesStoreTheInput :=
  fun s => ⟨congrArg Host.Outcome.next (sampleThen_eq 0 sSamp1 s),
    congrArg Host.Outcome.next (sampleThen_eq 1 sSamp2 s),
    congrArg Host.Outcome.next (sampleThen_eq 2 sEv0Check s)⟩

/-! ### The display rows (R256) -/

theorem exec_seqSRender (s : State) :
    exec .seqSRender s = .next { renderRows s with phase := sExec0 } := rfl

/-- A row shows the registers of the frame it was issued with, through SP, T and HC. -/
theorem displayedText_frame (row : Nat) (s : State) :
    displayedText row s.frame = Config.displayText row s.mode s.hys (setpoint s.raw0)
      (temperature s.raw2) (controlPercent s.raw1) s.heaterOn s.coolerOn := rfl

theorem display?_displine (r : BitVec 2) (f : DisplayFrame) :
    (PortEvent.displine r f).display? = some (rowNumber r, displayedText (rowNumber r) f) := rfl

/-- From a quiet port the display receives the rows 1 to 4 and nothing else. -/
theorem displayStream_renderRows {s : State} (hquiet : s.port = []) :
    displayStream (renderRows s) = [1, 2, 3, 4].map fun row => (row, displayedText row s.frame) := by
  have hrow : rowNumber 0#2 = 1 ∧ rowNumber 1#2 = 2 ∧ rowNumber 2#2 = 3 ∧ rowNumber 3#2 = 4 := by decide
  simp [displayStream, renderRows_eq, hquiet, display?_displine, hrow]

/-- Settles O27: the record by `renderRows_eq`, and the stream of a phase that starts with the port
quiet. -/
theorem renderWritesTheFourRows : Obligations.RenderWritesTheFourRows := by
  refine fun s => ⟨?_, fun t hexec => ?_⟩
  · rw [exec_seqSRender, renderRows_eq]
  · rw [exec_seqSRender] at hexec
    cases hexec
    have hquiet : State.port { s with port := [] } = [] := rfl
    exact displayStream_renderRows hquiet

/-! ### The five steps of an action (R221 to R224) -/

theorem exec_seqSExec0 (s : State) :
    exec .seqSExec0 s = .next { s with flags := actionFlags (select s), phase := sExec1 } := rfl

theorem exec_seqSExec1 (s : State) :
    exec .seqSExec1 s = .next { actionStep1 (select s) s with phase := sExec2 } := rfl

theorem exec_seqSExec2 (s : State) :
    exec .seqSExec2 s = .next { actionStep2 (select s) s with phase := sExec3 } := rfl

theorem exec_seqSExec3 (s : State) :
    exec .seqSExec3 s = .next { actionStep3 (select s) s with phase := sExec4 } := rfl

theorem exec_seqSExec4 (s : State) :
    exec .seqSExec4 s = .next { actionStep4 (select s) s with phase := sPace } := rfl

/-- ACT_IDLE performs the steps of ACT_OFF (R221, R224). -/
theorem actionSteps_of_off_or_idle {a : Action} (h : a = .off ∨ a = .idle) (s : State) :
    actionStep1 a s = actionStep1 .off s ∧ actionStep2 a s = actionStep2 .off s ∧
      actionStep3 a s = actionStep3 .off s ∧ actionStep4 a s = actionStep4 .off s ∧
      actionFlags a = actionFlags .off := by
  obtain rfl | rfl := h
  · exact ⟨rfl, rfl, rfl, rfl, rfl⟩
  · exact actionSteps_idle_eq_off s

theorem portSethout_zero (s : State) :
    portSethout 0#1 s = { s with hcon := s.hcon &&& 0b01#2, port := s.port ++ [.sethout 0#1] } := rfl

/-- The wrap of R104 is that of the sixteen bits HCMP has. -/
theorem sethcmpOperand_eq (s : State) :
    sethcmpOperand s = BitVec.ofNat 16 (s.raw1.toNat * 64 % 65536) :=
  BitVec.eq_of_toNat_eq (by simp [sethcmpOperand, toNat_heaterCompare])

/-- Settles O28, by the action selected. -/
theorem exec0WritesTheFlagsOfTheAction : Obligations.Exec0WritesTheFlagsOfTheAction := by
  refine fun s => ⟨fun hoff => ?_, fun hheat => ?_, fun hcool => ?_⟩
  · obtain ⟨_, _, _, _, hflags⟩ := actionSteps_of_off_or_idle hoff s
    rw [exec_seqSExec0, hflags, actionFlags]
  · rw [exec_seqSExec0, hheat, actionFlags]
  · rw [exec_seqSExec0, hcool, actionFlags]

/-- Settles O29, by the action selected. -/
theorem exec1IssuesTheFirstStep : Obligations.Exec1IssuesTheFirstStep := by
  refine fun s => ⟨fun hoff => ?_, fun hheat => ?_, fun hcool => ?_⟩
  · obtain ⟨hstep, _⟩ := actionSteps_of_off_or_idle hoff s
    rw [exec_seqSExec1, hstep, actionStep1, portEnhint_zero]
  · rw [exec_seqSExec1, hheat, actionStep1, portEncpwm_eq]
  · rw [exec_seqSExec1, hcool, actionStep1, portSethout_zero]

/-- Settles O30, by the action selected. -/
theorem exec2IssuesTheSecondStep : Obligations.Exec2IssuesTheSecondStep := by
  refine fun s => ⟨fun hoff => ?_, fun hheat => ?_, fun hcool => ?_⟩
  · obtain ⟨_, hstep, _⟩ := actionSteps_of_off_or_idle hoff s
    rw [exec_seqSExec2, hstep, actionStep2, portEncpwm_eq]
  · rw [exec_seqSExec2, hheat, actionStep2, portSetcduty_eq]
  · rw [exec_seqSExec2, hcool, actionStep2, portEnhint_zero]

/-- Settles O31, by the action selected. -/
theorem exec3IssuesTheThirdStep : Obligations.Exec3IssuesTheThirdStep := by
  refine fun s => ⟨fun hoff => ?_, fun hheat => ?_, fun hcool => ?_⟩
  · obtain ⟨_, _, hstep, _⟩ := actionSteps_of_off_or_idle hoff s
    rw [exec_seqSExec3, hstep, actionStep3, portSethout_zero]
  · rw [exec_seqSExec3, hheat, actionStep3, portEnhint_one]
  · rw [exec_seqSExec3, hcool, actionStep3, portEncpwm_eq]

/-- Settles O32, by the action selected. -/
theorem exec4LoadsCompareOrDuty : Obligations.Exec4LoadsCompareOrDuty := by
  refine fun s => ⟨fun hoff => ?_, fun hheat => ?_, fun hcool => ?_⟩
  · obtain ⟨_, _, _, hstep, _⟩ := actionSteps_of_off_or_idle hoff s
    rw [exec_seqSExec4, hstep, actionStep4, portSetcduty_eq]
  · rw [exec_seqSExec4, hheat, actionStep4, portSethcmp_eq, sethcmpOperand_eq]
  · rw [exec_seqSExec4, hcool, actionStep4, portSetcduty_eq, setcdutyOperand]

end Sys2Proof.Machine

/-! SUPPORT. The ten command words of 45_command_port: the effect of each port operation, and the index
field of SAMPLE and BTNSTATE, which names a channel or button or is refused. -/

namespace Sys2Proof.Machine

/-! ### The indexed words (R282, R283) -/

theorem exec_sample_of_index {ch : BitVec 2} {k : Fin 3} (hindex : indexOf ch = some k) (s : State) :
    exec (.sample ch) s = .next { s with port := s.port ++ [.sample k (s.adc k)] } := by
  simp only [exec, execSample, hindex, portSample_eq]

theorem exec_sample_of_no_index {ch : BitVec 2} (hindex : indexOf ch = none) (s : State) :
    exec (.sample ch) s = .refused (.reservedIndex ch) := by
  rw [exec, execSample, hindex]

/-- 1 means asserted, and a button is asserted at level 0 (R37). -/
theorem exec_btnstate_of_index {id : BitVec 2} {k : Fin 3} (hindex : indexOf id = some k) (s : State) :
    exec (.btnstate id) s =
      .next { s with port := s.port ++ [.btnstate k (decide (s.btnr.getLsbD k = false))] } := by
  simp only [exec, execBtnstate, hindex, portBtnstate_eq, Bool.decide_eq_false]

theorem exec_btnstate_of_no_index {id : BitVec 2} (hindex : indexOf id = none) (s : State) :
    exec (.btnstate id) s = .refused (.reservedIndex id) := by
  rw [exec, execBtnstate, hindex]

/-- Settles O12, by the channel the index field names. -/
theorem sampleReturnsTheAnalogInput : Obligations.SampleReturnsTheAnalogInput :=
  fun s => ⟨exec_sample_of_index rfl s, exec_sample_of_index rfl s, exec_sample_of_index rfl s,
    exec_sample_of_no_index rfl s⟩

/-- Settles O13, by the button the index field names. -/
theorem btnstateReturnsOneForAsserted : Obligations.BtnstateReturnsOneForAsserted :=
  fun s => ⟨exec_btnstate_of_index rfl s, exec_btnstate_of_index rfl s, exec_btnstate_of_index rfl s,
    exec_btnstate_of_no_index rfl s⟩

/-! ### The strobe and the display (R281, R290) -/

/-- Settles O11: the record of a DISPLINE is the frame of registers its text is made of. -/
theorem wdtrefreshAndDisplineChangeNoRegister : Obligations.WdtrefreshAndDisplineChangeNoRegister := by
  refine fun s => ⟨?_, fun r => ?_⟩
  · rw [exec, execWdtrefresh, portWdtrefresh_eq]
  · rw [exec, execDispline, portDispline_eq, State.frame]

/-! ### The heater words (R284 to R287) -/

theorem portSethout_one (s : State) :
    portSethout 1#1 s = { s with hcon := s.hcon ||| 0b10#2, port := s.port ++ [.sethout 1#1] } := rfl

/-- Settles O14, one port operation for each word. -/
theorem sethcmpAndRsthtmrWriteTheirRegisterAlone :
    Obligations.SethcmpAndRsthtmrWriteTheirRegisterAlone := by
  refine fun s => ⟨fun v => ?_, ?_⟩
  · rw [exec, execSethcmp, portSethcmp_eq]
  · rw [exec, execRsthtmr, portRsthtmr_eq]

/-- Settles O15, by the operand: ENHINT 0 alone reaches HEAT_OUT and the heater latches. -/
theorem enhintEnablesOrDisablesAndForcesLow : Obligations.EnhintEnablesOrDisablesAndForcesLow := by
  refine fun s => ⟨?_, ?_⟩
  · rw [exec, execEnhint, portEnhint_one]
  · rw [exec, execEnhint, portEnhint_zero]

/-- Settles O16, by the operand. -/
theorem sethoutWritesTheHeaterOutput : Obligations.SethoutWritesTheHeaterOutput := by
  refine fun s => ⟨?_, ?_⟩
  · rw [exec, execSethout, portSethout_zero]
  · rw [exec, execSethout, portSethout_one]

/-! ### The cooler words (R288, R289) -/

/-- Settles O17: CCON is CPWMEN alone, so writing that bit writes the register. -/
theorem setcdutyAndEncpwmWriteTheCoolerRegisters :
    Obligations.SetcdutyAndEncpwmWriteTheCoolerRegisters := by
  refine fun s => ⟨fun v => ?_, fun b => ?_⟩
  · rw [exec, execSetcduty, portSetcduty_eq]
  · rw [exec, execEncpwm, portEncpwm_eq]

end Sys2Proof.Machine

/-! SUPPORT. The round trip of 30_encoding: the two fields of a command word, the operand shapes, the rows
of the opcode table as one row for each opcode, and O1 to O5 assembled from them. -/

namespace Sys2Proof

/-! ### The two fields of a command word (R101) -/

theorem opField_append (op : BitVec 4) (arg : BitVec 16) : opField (op ++ arg) = op :=
  BitVec.extractLsb'_append_eq_left

theorem argField_append (op : BitVec 4) (arg : BitVec 16) : argField (op ++ arg) = arg :=
  BitVec.extractLsb'_append_eq_right

theorem append_fields (w : CmdWord) : opField w ++ argField w = w :=
  BitVec.extractLsb'_append_extractLsb'

theorem cmdWord_eq_cw {w : CmdWord} {op : BitVec 4} {arg : BitVec 16} (hop : (opField w).toNat = op.toNat)
    (harg : argField w = arg) : cmdWord op arg = .cw w := by
  rw [cmdWord, ← BitVec.eq_of_toNat_eq hop, ← harg, append_fields]

theorem toNat_opField (w : CmdWord) : (opField w).toNat = w.toNat / 65536 := by
  have hw : w.toNat < 1048576 := w.isLt
  rw [opField, BitVec.extractLsb'_toNat, Nat.shiftRight_eq_div_pow]
  omega

/-! ### The operand shapes (R103) -/

theorem setWidth_ushiftRight_eq_zero {n : Nat} (v : BitVec n) : v.setWidth 16 >>> n = 0#16 := by
  apply BitVec.eq_of_toNat_eq
  rw [BitVec.toNat_ushiftRight, BitVec.toNat_setWidth, Nat.shiftRight_eq_div_pow, BitVec.toNat_zero]
  exact Nat.div_eq_of_lt ((Nat.mod_le _ _).trans_lt v.isLt)

/-- An operand whose bits from `n` on are 0 is its low `n` bits. -/
theorem setWidth_setWidth_of_ushiftRight {n : Nat} {arg : BitVec 16} (h : arg >>> n = 0#16) :
    (arg.setWidth n).setWidth 16 = arg := by
  have hlow : arg.toNat < 2 ^ n := by
    have hdiv : arg.toNat / 2 ^ n = 0 := by
      simpa [Nat.shiftRight_eq_div_pow] using congrArg BitVec.toNat h
    exact (Nat.div_eq_zero_iff_lt (by positivity)).mp hdiv
  apply BitVec.eq_of_toNat_eq
  rw [BitVec.toNat_setWidth, BitVec.toNat_setWidth, Nat.mod_eq_of_lt hlow, Nat.mod_eq_of_lt arg.isLt]

theorem operand_setWidth {n : Nat} (hn : n ≤ 16) (v : BitVec n) (mk : BitVec n → Instr) :
    operand n (v.setWidth 16) mk = .ok (mk v) := by
  rw [operand, if_pos (setWidth_ushiftRight_eq_zero v), BitVec.setWidth_setWidth_of_le v hn,
    BitVec.setWidth_eq]

theorem operand_ok {n : Nat} {arg : BitVec 16} {mk : BitVec n → Instr} {i : Instr}
    (h : operand n arg mk = .ok i) : ∃ v : BitVec n, i = mk v ∧ arg = v.setWidth 16 := by
  unfold operand at h
  split at h
  · next hbits => exact ⟨_, (Except.ok.inj h).symm, (setWidth_setWidth_of_ushiftRight hbits).symm⟩
  · cases h

theorem noOperand_ok {arg : BitVec 16} {i j : Instr} (h : noOperand arg j = .ok i) :
    i = j ∧ arg = 0#16 := by
  unfold noOperand at h
  split at h
  · next hzero => exact ⟨(Except.ok.inj h).symm, hzero⟩
  · cases h

/-- Index 3 is the one two-bit value that an index field refuses (R114). -/
theorem indexOperand_setWidth {v : BitVec 2} (hv : v ≠ 3#2) (mk : BitVec 2 → Instr) :
    indexOperand (v.setWidth 16) mk = .ok (mk v) := by
  have hne : v.setWidth 16 ≠ 3#16 := by revert v; decide
  rw [indexOperand, if_neg hne, operand_setWidth (by decide)]

theorem indexOperand_ok {arg : BitVec 16} {mk : BitVec 2 → Instr} {i : Instr}
    (h : indexOperand arg mk = .ok i) : ∃ v : BitVec 2, v ≠ 3#2 ∧ i = mk v ∧ arg = v.setWidth 16 := by
  unfold indexOperand at h
  split at h
  · cases h
  · next hne =>
    obtain ⟨v, hi, harg⟩ := operand_ok h
    refine ⟨v, ?_, hi, harg⟩
    rintro rfl
    exact hne harg

/-! ### Encode, then decode -/

/-- Settles O1: a command word by its two fields and the shape of its operand, a source number or a phase
code by evaluation. -/
theorem decodeOfEncodeIsIdentity : Obligations.DecodeOfEncodeIsIdentity := by
  intro i hwf
  cases i with
  | sample v | btnstate v =>
    have hv : v ≠ 3#2 := by simpa [Instr.wellFormed] using hwf
    simp [encode, decode, cmdWord, decodeCW, opField_append, argField_append, indexOperand_setWidth hv]
  | enhint v | sethout v | setcduty v | encpwm v | displine v =>
    simp [encode, decode, cmdWord, decodeCW, opField_append, argField_append, operand_setWidth]
  | sethcmp v => simp [encode, decode, cmdWord, decodeCW, opField_append, argField_append]
  | _ => rfl

/-! ### Decode, then encode -/

/-- Each branch of the opcode map gives the operand back as the low bits of the operand field. -/
theorem encode_of_decodeCW {w : CmdWord} {i : Instr} (h : decodeCW w = .ok i) :
    i.wellFormed = true ∧ encode i = .cw w := by
  unfold decodeCW at h
  split at h
  case h_1 hop | h_5 hop =>
    obtain ⟨rfl, harg⟩ := noOperand_ok h
    exact ⟨rfl, cmdWord_eq_cw hop harg⟩
  case h_2 hop | h_3 hop =>
    obtain ⟨v, hv, rfl, harg⟩ := indexOperand_ok h
    exact ⟨by simpa [Instr.wellFormed] using hv, cmdWord_eq_cw hop harg⟩
  case h_4 hop =>
    cases h
    exact ⟨rfl, cmdWord_eq_cw hop rfl⟩
  case h_6 hop | h_7 hop | h_8 hop | h_9 hop | h_10 hop =>
    obtain ⟨v, rfl, harg⟩ := operand_ok h
    exact ⟨rfl, cmdWord_eq_cw hop harg⟩
  case h_11 => cases h

theorem wellFormed_of_decodeEV {n : SourceNumber} {i : Instr} (h : decodeEV n = .ok i) :
    i.wellFormed = true := by
  have htable : ∀ n : SourceNumber,
      (decodeEV n).map Instr.wellFormed = .ok true ∨ (decodeEV n).isOk = false := by decide
  simpa [h, Except.map, Except.isOk, Except.toBool] using htable n

theorem wellFormed_of_decodePH {p : PhaseCode} {i : Instr} (h : decodePH p = .ok i) :
    i.wellFormed = true := by
  have htable : ∀ p : PhaseCode,
      (decodePH p).map Instr.wellFormed = .ok true ∨ (decodePH p).isOk = false := by decide
  simpa [h, Except.map, Except.isOk, Except.toBool] using htable p

/-- Settles O2, format by format. -/
theorem encodeOfDecodeIsIdentity : Obligations.EncodeOfDecodeIsIdentity := by
  intro w i h
  cases w with
  | cw w => exact encode_of_decodeCW h
  | ev n => exact ⟨wellFormed_of_decodeEV h, Machine.encode_of_decodeEV h⟩
  | ph p => exact ⟨wellFormed_of_decodePH h, Machine.encode_of_decodePH h⟩

/-- Settles O3: each word written out is the word of the operation beside it. -/
theorem tableWordsDecode : Obligations.TableWordsDecode :=
  ⟨decodeOfEncodeIsIdentity .wdtrefresh rfl, decodeOfEncodeIsIdentity (.sample 2#2) rfl,
    decodeOfEncodeIsIdentity (.btnstate 1#2) rfl, decodeOfEncodeIsIdentity (.sethcmp 6400#16) rfl,
    decodeOfEncodeIsIdentity .rsthtmr rfl, decodeOfEncodeIsIdentity (.enhint 1#1) rfl,
    decodeOfEncodeIsIdentity (.sethout 0#1) rfl, decodeOfEncodeIsIdentity (.setcduty 100#10) rfl,
    decodeOfEncodeIsIdentity (.encpwm 1#1) rfl, decodeOfEncodeIsIdentity (.displine 3#2) rfl,
    decodeOfEncodeIsIdentity .irqCmpmatch rfl, decodeOfEncodeIsIdentity .seqSEv0Waitrel rfl⟩

/-! ### The rows of the opcode table (R102) -/

/-- The bits of the operand field that opcode `op` uses. -/
def operandWidth (op : BitVec 4) : Nat :=
  match op.toNat with
  | 2 => 2
  | 3 => 2
  | 4 => 16
  | 6 => 1
  | 7 => 1
  | 8 => 10
  | 9 => 1
  | 10 => 2
  | _ => 0

/-- The row of opcode `op`: the mask covers the opcode and every operand bit that is not used. -/
def rowOfOpcode (op : BitVec 4) : Row :=
  .cw (15#4 ++ BitVec.allOnes 16 <<< operandWidth op) (op ++ 0#16)

/-- The one row that can select a word. -/
def rowOfWord (w : Word) : Row :=
  match w with
  | .cw w => rowOfOpcode (opField w)
  | .ev n => .ev 7#3 n
  | .ph p => .ph 31#5 p

/-- Every operation's row is that of its opcode, of its source number or of its phase code. -/
theorem opcodeRow_cases (i : Instr) :
    (∃ op : BitVec 4, 1 ≤ op.toNat ∧ op.toNat ≤ 10 ∧ opcodeRow i = rowOfOpcode op) ∨
    (∃ n, opcodeRow i = .ev 7#3 n ∧ decode (.ev n) = .ok i) ∨
    (∃ p, opcodeRow i = .ph 31#5 p ∧ decode (.ph p) = .ok i) := by
  cases i with
  | wdtrefresh => exact .inl ⟨1#4, by decide, by decide, rfl⟩
  | sample => exact .inl ⟨2#4, by decide, by decide, rfl⟩
  | btnstate => exact .inl ⟨3#4, by decide, by decide, rfl⟩
  | sethcmp => exact .inl ⟨4#4, by decide, by decide, rfl⟩
  | rsthtmr => exact .inl ⟨5#4, by decide, by decide, rfl⟩
  | enhint => exact .inl ⟨6#4, by decide, by decide, rfl⟩
  | sethout => exact .inl ⟨7#4, by decide, by decide, rfl⟩
  | setcduty => exact .inl ⟨8#4, by decide, by decide, rfl⟩
  | encpwm => exact .inl ⟨9#4, by decide, by decide, rfl⟩
  | displine => exact .inl ⟨10#4, by decide, by decide, rfl⟩
  | irqTmrovf | irqCmpmatch | irqBtn0edge | irqBtn1edge | irqBtn2edge =>
    exact .inr (.inl ⟨_, rfl, rfl⟩)
  | _ => exact .inr (.inr ⟨_, rfl, rfl⟩)

theorem and_allOnes_shiftLeft_eq_zero_iff {w : Nat} (arg : BitVec w) (n : Nat) :
    arg &&& BitVec.allOnes w <<< n = 0#w ↔ arg >>> n = 0#w := by
  refine ⟨fun h => ?_, fun h => ?_⟩
  · ext i hi
    have hbit := congrArg (BitVec.getLsbD · (n + i)) h
    by_cases hn : n + i < w
    · simpa [hn] using hbit
    · simp [BitVec.getLsbD_of_ge arg (n + i) (by omega)]
  · rw [← BitVec.shiftLeft_ushiftRight, h, BitVec.zero_shiftLeft]

theorem append_fields_inj {op op' : BitVec 4} {arg arg' : BitVec 16} :
    op ++ arg = op' ++ arg' ↔ op = op' ∧ arg = arg' := by
  refine ⟨fun h => ⟨?_, ?_⟩, fun ⟨hop, harg⟩ => hop ▸ harg ▸ rfl⟩
  · simpa only [opField_append] using congrArg opField h
  · simpa only [argField_append] using congrArg argField h

/-- `W and mask = match` says: this opcode, and no unused operand bit set (R101, R102). -/
theorem and_mask_eq_match_iff (w : CmdWord) (op : BitVec 4) :
    w &&& (15#4 ++ BitVec.allOnes 16 <<< operandWidth op) = op ++ 0#16 ↔
      opField w = op ∧ argField w >>> operandWidth op = 0#16 := by
  have hones : opField w &&& 15#4 = opField w := BitVec.and_allOnes
  rw [← append_fields w, BitVec.and_append, append_fields_inj, opField_append, argField_append, hones,
    and_allOnes_shiftLeft_eq_zero_iff]

/-- The row that selects a word is the row of the word's opcode, source number or phase code. -/
theorem opcodeRow_eq_rowOfWord {i : Instr} {w : Word} (h : (opcodeRow i).selects w = true) :
    opcodeRow i = rowOfWord w := by
  obtain ⟨op, _, _, hrow⟩ | ⟨n, hrow, _⟩ | ⟨p, hrow, _⟩ := opcodeRow_cases i
  all_goals rw [hrow] at h ⊢; cases w
  case inl.cw w =>
    obtain ⟨rfl, _⟩ := (and_mask_eq_match_iff w op).mp (beq_iff_eq.mp h)
    rfl
  case inr.inl.ev m =>
    have hm : m &&& 7#3 = m := BitVec.and_allOnes
    rw [← beq_iff_eq.mp h, hm, rowOfWord]
  case inr.inr.ph m =>
    have hm : m &&& 31#5 = m := BitVec.and_allOnes
    rw [← beq_iff_eq.mp h, hm, rowOfWord]
  all_goals cases h

/-! ### What each row's words decode to -/

theorem indexOperand_of_bits {arg : BitVec 16} (mk : BitVec 2 → Instr) (h : arg >>> 2 ≠ 0#16) :
    indexOperand arg mk = .error (.operandBits arg) := by
  have hne : arg ≠ 3#16 := by rintro rfl; exact h (by decide)
  rw [indexOperand, if_neg hne, operand, if_neg h]

theorem indexOperand_of_fits {arg : BitVec 16} (mk : BitVec 2 → Instr) (h : arg >>> 2 = 0#16) :
    arg = 3#16 ∨ ∃ v, indexOperand arg mk = .ok (mk v) := by
  by_cases harg : arg = 3#16
  · exact .inl harg
  · exact .inr ⟨_, by rw [indexOperand, if_neg harg, operand, if_pos h]⟩

/-- An unused operand bit is refused under every opcode of the table (R101, R112). -/
theorem decodeCW_of_operandBits {w : CmdWord} (hlow : 1 ≤ (opField w).toNat)
    (hhigh : (opField w).toNat ≤ 10) (hbits : argField w >>> operandWidth (opField w) ≠ 0#16) :
    decodeCW w = .error (.operandBits (argField w)) := by
  unfold decodeCW
  split
  case h_1 hop | h_5 hop =>
    rw [noOperand, if_neg]
    simpa [operandWidth, hop] using hbits
  case h_2 hop | h_3 hop => exact indexOperand_of_bits _ (by simpa [operandWidth, hop] using hbits)
  case h_4 hop => exact absurd (BitVec.ushiftRight_eq_zero (by simp [operandWidth, hop])) hbits
  case h_6 hop | h_7 hop | h_8 hop | h_9 hop | h_10 hop =>
    rw [operand, if_neg]
    simpa [operandWidth, hop] using hbits
  case h_11 => exfalso; grind

/-- A word with no unused operand bit set decodes to an operation of its opcode's row, but for the
reserved index of SAMPLE and BTNSTATE (R114). -/
theorem decodeCW_of_fits {w : CmdWord} (hlow : 1 ≤ (opField w).toNat) (hhigh : (opField w).toNat ≤ 10)
    (hfits : argField w >>> operandWidth (opField w) = 0#16) :
    (∃ j, decodeCW w = .ok j ∧ opcodeRow j = rowOfOpcode (opField w)) ∨
      w = 0x20003#20 ∨ w = 0x30003#20 := by
  have hfield {n : Nat} (hop : (opField w).toNat = n) : opField w = BitVec.ofNat 4 n := by
    rw [← hop, BitVec.ofNat_toNat, BitVec.setWidth_eq]
  have hrow {n : Nat} {i : Instr} (hop : (opField w).toNat = n)
      (hi : opcodeRow i = rowOfOpcode (BitVec.ofNat 4 n)) : opcodeRow i = rowOfOpcode (opField w) := by
    rw [hfield hop, hi]
  have hword {n : Nat} {arg : BitVec 16} (hop : (opField w).toNat = n) (harg : argField w = arg) :
      w = BitVec.ofNat 4 n ++ arg := by
    rw [← hfield hop, ← harg, append_fields]
  unfold decodeCW
  split
  case h_1 hop | h_5 hop =>
    rw [noOperand, if_pos (by simpa [operandWidth, hop] using hfits)]
    exact .inl ⟨_, rfl, hrow hop rfl⟩
  case h_2 hop =>
    obtain harg | ⟨v, hv⟩ := indexOperand_of_fits .sample (by simpa [operandWidth, hop] using hfits)
    · exact .inr (.inl (hword hop harg))
    · exact .inl ⟨_, hv, hrow hop rfl⟩
  case h_3 hop =>
    obtain harg | ⟨v, hv⟩ := indexOperand_of_fits .btnstate (by simpa [operandWidth, hop] using hfits)
    · exact .inr (.inr (hword hop harg))
    · exact .inl ⟨_, hv, hrow hop rfl⟩
  case h_4 hop => exact .inl ⟨_, rfl, hrow hop rfl⟩
  case h_6 hop | h_7 hop | h_8 hop | h_9 hop | h_10 hop =>
    rw [operand, if_pos (by simpa [operandWidth, hop] using hfits)]
    exact .inl ⟨_, rfl, hrow hop rfl⟩
  case h_11 => exfalso; grind

/-- Settles O4: the selected row is `rowOfWord`, so it is unique; its words decode by format. -/
theorem selectedRowIsTheOneDecoded : Obligations.SelectedRowIsTheOneDecoded := by
  intro i w hsel
  have hunique := opcodeRow_eq_rowOfWord hsel
  refine ⟨?_, fun j hj => (opcodeRow_eq_rowOfWord hj).trans hunique.symm⟩
  obtain ⟨op, hlow, hhigh, hrow⟩ | ⟨n, hrow, hdec⟩ | ⟨p, hrow, hdec⟩ := opcodeRow_cases i
  all_goals rw [hrow] at hsel hunique; cases w
  case inl.cw w =>
    obtain ⟨rfl, hfits⟩ := (and_mask_eq_match_iff w op).mp (beq_iff_eq.mp hsel)
    simpa only [hrow, decode, Word.cw.injEq] using decodeCW_of_fits hlow hhigh hfits
  case inr.inl.ev m =>
    cases hunique
    exact .inl ⟨i, hdec, rfl⟩
  case inr.inr.ph m =>
    cases hunique
    exact .inl ⟨i, hdec, rfl⟩
  all_goals cases hsel

/-! ### Reserved command words (R101, R112) -/

theorem decodeCW_of_reserved_opcode {w : CmdWord} (h : (opField w).toNat = 0 ∨ 11 ≤ (opField w).toNat) :
    decodeCW w = .error (.opcode (opField w)) := by
  unfold decodeCW
  split
  case h_11 => rfl
  all_goals next hop => omega

/-- What the port records is never an operation with the reserved index. -/
theorem portEvent_instr_wellFormed (e : Machine.PortEvent) : e.instr.wellFormed = true := by
  cases e with
  | sample k _ | btnstate k _ =>
    simp [Machine.PortEvent.instr, Instr.wellFormed, Machine.indexField_ne_three]
  | _ => rfl

/-- Settles O5, clause by clause; the two decoder clauses read the opcode off the word's number. -/
theorem reservedCommandWordsRefused : Obligations.ReservedCommandWordsRefused := by
  refine ⟨fun e => decodeOfEncodeIsIdentity _ (portEvent_instr_wellFormed e), fun w => ⟨fun hop => ?_,
    fun i mask value hrow hop hmask => ?_, fun s r hcmd hdec => ?_⟩⟩
  · exact decodeCW_of_reserved_opcode (by rwa [toNat_opField])
  · obtain ⟨op, hlow, hhigh, hop'⟩ | ⟨n, hev, _⟩ | ⟨p, hph, _⟩ := opcodeRow_cases i
    · rw [hrow, rowOfOpcode, Row.cw.injEq] at hop'
      obtain ⟨rfl, rfl⟩ := hop'
      rw [← toNat_opField, ← toNat_opField, opField_append] at hop
      obtain rfl := BitVec.eq_of_toNat_eq hop
      exact decodeCW_of_operandBits hlow hhigh fun hfits =>
        hmask ((and_mask_eq_match_iff w _).mpr ⟨rfl, hfits⟩)
    · simp [hrow] at hev
    · simp [hrow] at hph
  · exact Machine.step_of_decode_error (Machine.nextTurn_cmd s w hcmd) hdec

end Sys2Proof

/-! SUPPORT. The turn of 60_exceptions: which source the dispatcher serves, what the step of each turn
runs, and the obligations that speak of one step of any agent. -/

namespace Sys2Proof.Machine

/-! ### The served source (R314, R317, R318) -/

/-- IF[n] = 1 and IE[n] = 1, where HIE enables the sources 0 and 1 and the others are always enabled. -/
theorem requested_iff (s : State) (n : Fin 5) :
    requested s n = true ↔ s.ifr.getLsbD n = true ∧ (n.val < 2 → s.hcon.getLsbD 0 = true) := by
  match n with
  | 0 | 1 => simp [requested, sourceEnabled, State.latch, State.hie]
  | 2 | 3 | 4 => simp [requested, sourceEnabled, State.latch]

theorem requested_false_iff (s : State) (n : Fin 5) :
    requested s n = false ↔ ¬(s.ifr.getLsbD n = true ∧ (n.val < 2 → s.hcon.getLsbD 0 = true)) := by
  rw [← requested_iff, Bool.not_eq_true]

theorem pendingSource_eq_some_iff (s : State) (n : Fin 5) :
    pendingSource s = some (BitVec.ofNat 3 n) ↔
      requested s n = true ∧ ∀ m : Fin 5, m < n → requested s m = false := by
  refine ⟨fun h => ?_, fun ⟨hreq, hlower⟩ => ?_⟩
  · obtain ⟨hnone, _⟩ | ⟨k, hsome, hspec⟩ := pendingSource_cases s
    · simp [hnone] at h
    · have hinj : ∀ k n : Fin 5, BitVec.ofNat 3 k = BitVec.ofNat 3 n → k = n := by decide
      obtain rfl := hinj k n (Option.some.inj (hsome.symm.trans h))
      exact hspec
  · obtain ⟨_, hall⟩ | ⟨k, hsome, hk, hklower⟩ := pendingSource_cases s
    · simp [hall n] at hreq
    · obtain hlt | rfl | hgt := lt_trichotomy k n
      · simp [hlower k hlt] at hk
      · exact hsome
      · simp [hklower n hgt] at hreq

/-- The sources are the numbers 0 to 4. -/
theorem exists_fin_of_pendingSource {s : State} {n : SourceNumber} (h : pendingSource s = some n) :
    ∃ k : Fin 5, n = BitVec.ofNat 3 k :=
  ⟨⟨n.toNat, Nat.lt_succ_of_le (pendingSource_le h)⟩, by simp⟩

/-- Settles O37: `pendingSource_eq_some_iff` with each request written out as its two bits. -/
theorem lowestRequestedSourceIsServed : Obligations.LowestRequestedSourceIsServed := by
  intro s n
  by_cases hn : n.toNat < 5
  · have hfin := pendingSource_eq_some_iff s ⟨n.toNat, hn⟩
    rw [BitVec.ofNat_toNat, BitVec.setWidth_eq, requested_iff] at hfin
    rw [hfin, and_assoc]
    refine ⟨fun ⟨hlatch, henabled, hlower⟩ => ⟨hn, hlatch, henabled, fun m hm => ?_⟩,
      fun ⟨_, hlatch, henabled, hlower⟩ => ⟨hlatch, henabled, fun m hm => ?_⟩⟩
    · exact (requested_false_iff s ⟨m, hm.trans hn⟩).mp (hlower _ hm)
    · exact (requested_false_iff s m).mpr (hlower m hm)
  · refine ⟨fun h => absurd (pendingSource_le h) (by omega), fun ⟨hlt, _⟩ => absurd hlt hn⟩

/-! ### What a turn runs -/

theorem step_of_nextTurn_run {s : State} {w : Word} {i : Instr} (hturn : nextTurn s = .run w)
    (hdec : decode w = .ok i) : step s = exec i (beginTurn (.run w) s) := by
  simp [step, hturn, hdec]

theorem nextTurn_reset {s : State} (hcmd : s.cmd = none) (hoffer : offer s = .other .reset) :
    nextTurn s = .take .reset := by
  simp [nextTurn, hcmd, hoffer]

/-- Settles O7, by the three turns that run a word. -/
theorem stepRunsTheDecodedWord : Obligations.StepRunsTheDecodedWord :=
  fun s _ => ⟨fun w hcmd hdec => step_of_nextTurn_run (nextTurn_cmd s w hcmd) hdec,
    fun _ hcmd hoffer hpend hdec =>
      step_of_nextTurn_run (nextTurn_of_pendingSource hcmd hoffer hpend) hdec,
    fun hcmd hoffer hpend hdec => step_of_nextTurn_run (nextTurn_seq hcmd hoffer hpend) hdec⟩

/-! ### A word placed for the next step (log entries 1, 2 and 7) -/

/-- What a turn does before it runs touches no register. -/
theorem read_beginTurn (r : Reg) (t : Turn) (s : State) : r.read (beginTurn t s) = r.read s := by
  cases t with
  | run w => cases w <;> cases r <;> rfl
  | take a => cases r <;> rfl

theorem pendingSource_of_ifr_zero {s : State} (h : s.ifr = 0#5) : pendingSource s = none := by
  simp [pendingSource, requested, State.latch, h]

/-- The placed source number is the only request, and HIE enables it. -/
theorem pendingSource_placeWord_ev {n : SourceNumber} (hn : n.toNat < 5) (s : State) :
    pendingSource (placeWord (.ev n) s) = some n := by
  refine (lowestRequestedSourceIsServed _ n).mpr ⟨hn, ?_, fun hlow => ?_, fun m hm hboth => ?_⟩
  · simp [placeWord, hn]
  · rw [placeWord, if_pos hn, if_pos hlow]
    exact hie_setHie s true
  · obtain ⟨hbit, _⟩ := hboth
    simp [placeWord, hn] at hbit
    omega

theorem nextTurn_placeWord {w : Word} {i : Instr} (hdec : decode w = .ok i) (s : State) :
    nextTurn (placeWord w s) = .run w := by
  cases w with
  | cw w => exact nextTurn_cmd _ w rfl
  | ev n =>
    have hn : n.toNat < 5 := by
      by_contra hge
      simp [decode, decodeEV_reserved n (by omega)] at hdec
    refine nextTurn_of_pendingSource ?_ ?_ (pendingSource_placeWord_ev hn s)
    · simp [placeWord, hn]
    · simp [placeWord, hn, offer]
  | ph p => exact nextTurn_seq rfl rfl (pendingSource_of_ifr_zero rfl)

/-- A word that decodes to nothing is refused where it is placed; a reserved source number stands there
as the reserved command word 0. -/
theorem step_placeWord_of_error {w : Word} {r : Reserved} (hdec : decode w = .error r) (s : State) :
    ∃ r', step (placeWord w s) = .refused (.reservedWord r') := by
  cases w with
  | cw w => exact ⟨r, step_of_decode_error (nextTurn_cmd _ w rfl) hdec⟩
  | ev n =>
    have hn : ¬ n.toNat < 5 := fun hlt => by
      obtain ⟨i, hi⟩ := exists_decodeEV (Nat.le_of_lt_succ hlt)
      simp [decode, hi] at hdec
    have hplaced : placeWord (.ev n) s = placeWord (.cw 0#20) s := by simp [placeWord, hn]
    rw [hplaced]
    exact ⟨_, step_of_decode_error (nextTurn_cmd _ 0#20 rfl) rfl⟩
  | ph p => exact ⟨r, step_of_decode_error (nextTurn_seq rfl rfl (pendingSource_of_ifr_zero rfl)) hdec⟩

/-- Settles O8: the placed word is the next turn, and a turn touches no register before it runs. -/
theorem placedWordIsRunNext : Obligations.PlacedWordIsRunNext := by
  intro s nbits w
  unfold State.withFetchWord placeTableWord decodeTableWord
  cases htable : tableWord nbits w with
  | none => exact ⟨fun _ h => (by cases h), fun _ => step_placeWord_of_error (w := .cw 0#20) rfl s⟩
  | some x =>
    cases hdec : decode x with
    | ok i =>
      simp only [decode?, hdec, Option.some.injEq, reduceCtorEq, false_implies, and_true]
      rintro _ rfl
      exact ⟨_, step_of_nextTurn_run (nextTurn_placeWord hdec s) hdec, fun r => read_beginTurn r _ _⟩
    | error r => exact ⟨fun _ h => by simp [decode?, hdec] at h, fun _ => step_placeWord_of_error hdec s⟩

/-! ### RESET, the first phase and the analog inputs -/

/-- Settles O9: the table register by register, and the turn of RESET before any request. -/
theorem resetGivesEveryRegisterItsValue : Obligations.ResetGivesEveryRegisterItsValue := by
  refine ⟨fun r => by cases r <;> rfl, fun s hcmd hoffer => ?_⟩
  rw [step_of_nextTurn_take (nextTurn_reset hcmd hoffer), beginTurn_take, takeStep, resetMachine]
  simp [State.reset, hcmd]

/-- Settles O10: PHASE is 0 at reset and nothing is requested, so the sequencer's turn runs S_WDT. -/
theorem firstPhaseAfterResetIsTheWatchdogRefresh :
    Obligations.FirstPhaseAfterResetIsTheWatchdogRefresh := by
  intro rest
  have hturn : nextTurn { State.reset with agenda := .seq :: rest } = .run (.ph sWdt) :=
    nextTurn_seq rfl rfl (pendingSource_of_ifr_zero rfl)
  rw [step_of_nextTurn_run (i := .seqSWdt) hturn rfl]
  exact congrArg Host.Outcome.next (refreshThen_eq sSamp0 _)

theorem adc_setAdc (s : State) (k j : Fin 3) (v : Sample) :
    (s.setAdc k v).adc j = if j = k then v else s.adc j := by
  match j with
  | 0 | 1 | 2 => simp only [State.adc, State.setAdc, eq_comm]

/-- Settles O36: the turn takes ENV_ADC, which writes the three input fields alone. -/
theorem analogChangeMovesOnlyItsInput : Obligations.AnalogChangeMovesOnlyItsInput := by
  intro s k v hcmd hoffer hpend
  have hstep := step_of_nextTurn_take (nextTurn_take hcmd hoffer hpend)
  rw [beginTurn_take] at hstep
  exact ⟨_, hstep, fun j => adc_setAdc _ k j v, rfl⟩

/-- Settles O41: each test of one form is the test of the other at the same place. -/
theorem integerComparatorAgreesWithTheRationalOne :
    Obligations.IntegerComparatorAgreesWithTheRationalOne := autoCool_measured_eq

/-! ### Handlers -/

/-- What the handler of source `n` writes besides its latch (R184, R185, R133 to R135). -/
def handlerBody (n : Fin 5) : State → State :=
  match n with
  | 0 => fun s => portRsthtmr (s.setHeatOut true)
  | 1 => fun s => s.setHeatOut false
  | 2 => fun s => s.setPend 0 true
  | 3 => fun s => s.setPend 1 true
  | 4 => fun s => s.setPend 2 true

theorem exec_handler (n : Fin 5) :
    ∃ i, decode (.ev (BitVec.ofNat 3 n)) = .ok i ∧
      ∀ s, exec i s = .next (serveInterrupt n (handlerBody n) s) := by
  match n with
  | 0 | 1 | 2 | 3 | 4 => exact ⟨_, rfl, fun _ => rfl⟩

/-- The step of a requested source runs its handler on the state with the port quiet. -/
theorem step_handler {s : State} {n : Fin 5} (hturn : nextTurn s = .run (.ev (BitVec.ofNat 3 n))) :
    step s = .next (serveInterrupt n (handlerBody n) (freshTurn s)) := by
  obtain ⟨i, hdec, hexec⟩ := exec_handler n
  rw [step_of_nextTurn_run hturn hdec, hexec, beginTurn]

/-- A handler writes neither PHASE nor the agenda, and its last write clears its latch (R315, R320). -/
theorem serveInterrupt_handlerBody (n : Fin 5) (s : State) :
    (serveInterrupt n (handlerBody n) s).phase = s.phase ∧
      (serveInterrupt n (handlerBody n) s).agenda = s.agenda ∧
      (serveInterrupt n (handlerBody n) s).latch n = false := by
  refine ⟨?_, ?_, ?_⟩
  · match n with
    | 0 | 1 | 2 | 3 | 4 => rfl
  · match n with
    | 0 | 1 | 2 | 3 | 4 => rfl
  · exact (latch_setLatch _ n n false).trans (if_pos rfl)

/-- Settles O38: some request means some served source, which `pendingSource_eq_some_iff` makes the
lowest, and its handler is the step. -/
theorem pendingRequestIsServedBeforeAnyOtherAgent :
    Obligations.PendingRequestIsServedBeforeAnyOtherAgent := by
  intro s n hcmd hoffer hn hlatch henabled
  have hreq : requested s ⟨n, hn⟩ = true := (requested_iff s _).mpr ⟨hlatch, henabled⟩
  obtain ⟨_, hall⟩ | ⟨m, hsome, _, hlower⟩ := pendingSource_cases s
  · simp [hall] at hreq
  obtain ⟨_, hmlatch, hmenabled, hmlower⟩ := (lowestRequestedSourceIsServed s _).mp hsome
  have hmn : (BitVec.ofNat 3 m).toNat ≤ n := by
    by_contra hgt
    exact hmlower n (by omega) ⟨hlatch, henabled⟩
  have hturn := nextTurn_of_pendingSource hcmd hoffer hsome
  obtain ⟨hphase, hagenda, hcleared⟩ := serveInterrupt_handlerBody m (freshTurn s)
  have hm : (BitVec.ofNat 3 m).toNat = m := by simp; omega
  refine ⟨_, _, hturn, hmn, hmlatch, hmenabled, hmlower, step_handler hturn, hphase, ?_, hagenda⟩
  rw [hm]
  exact hcleared

end Sys2Proof.Machine

/-! SUPPORT. Write ownership (R326): which registers each update, each port operation and each shape of a
phase may write, and from them which registers each operation and each step may write. -/

namespace Sys2Proof.Machine

/-- From `s` to `t` no register outside `ws` changes, and no command word gets presented. -/
structure WritesOnly (ws : List Reg) (s t : State) : Prop where
  read_eq : ∀ r : Reg, r ∉ ws → r.read t = r.read s
  cmd_eq : t.cmd = s.cmd

namespace WritesOnly

variable {ws ws' : List Reg} {s t u : State}

theorem mono (h : WritesOnly ws s t) (hsub : ∀ r ∈ ws, r ∈ ws') : WritesOnly ws' s t :=
  ⟨fun r hr => h.read_eq r fun hmem => hr (hsub r hmem), h.cmd_eq⟩

theorem trans (h : WritesOnly ws s t) (h' : WritesOnly ws' t u) : WritesOnly (ws ++ ws') s u := by
  refine ⟨fun r hr => ?_, h'.cmd_eq.trans h.cmd_eq⟩
  rw [List.mem_append, not_or] at hr
  obtain ⟨hws, hws'⟩ := hr
  exact (h'.read_eq r hws').trans (h.read_eq r hws)

/-! The registers the later proofs ask about, read as words. -/

theorem mode (h : WritesOnly ws s t) (hr : .mode ∉ ws) : t.mode = s.mode :=
  BitVec.eq_of_toNat_eq (h.read_eq .mode hr)

theorem hys (h : WritesOnly ws s t) (hr : .hys ∉ ws) : t.hys = s.hys :=
  BitVec.eq_of_toNat_eq (h.read_eq .hys hr)

theorem raw0 (h : WritesOnly ws s t) (hr : .raw0 ∉ ws) : t.raw0 = s.raw0 :=
  BitVec.eq_of_toNat_eq (h.read_eq .raw0 hr)

theorem raw2 (h : WritesOnly ws s t) (hr : .raw2 ∉ ws) : t.raw2 = s.raw2 :=
  BitVec.eq_of_toNat_eq (h.read_eq .raw2 hr)

theorem flags (h : WritesOnly ws s t) (hr : .flags ∉ ws) : t.flags = s.flags :=
  BitVec.eq_of_toNat_eq (h.read_eq .flags hr)

theorem pend (h : WritesOnly ws s t) (hr : .pend ∉ ws) : t.pend = s.pend :=
  BitVec.eq_of_toNat_eq (h.read_eq .pend hr)

theorem phase (h : WritesOnly ws s t) (hr : .phase ∉ ws) : t.phase = s.phase :=
  BitVec.eq_of_toNat_eq (h.read_eq .phase hr)

theorem hcon (h : WritesOnly ws s t) (hr : .hcon ∉ ws) : t.hcon = s.hcon :=
  BitVec.eq_of_toNat_eq (h.read_eq .hcon hr)

theorem ccon (h : WritesOnly ws s t) (hr : .ccon ∉ ws) : t.ccon = s.ccon :=
  BitVec.eq_of_toNat_eq (h.read_eq .ccon hr)

theorem ifr (h : WritesOnly ws s t) (hr : .ifr ∉ ws) : t.ifr = s.ifr :=
  BitVec.eq_of_toNat_eq (h.read_eq .ifr hr)

end WritesOnly

section Updates

variable (s : State)

/-! ### The updates of State -/

theorem setMode_writes (v : BitVec 2) : WritesOnly [.mode] s (s.setMode v) :=
  ⟨fun r hr => by cases r with | mode => simp at hr | _ => rfl, rfl⟩

theorem setHys_writes (v : BitVec 2) : WritesOnly [.hys] s (s.setHys v) :=
  ⟨fun r hr => by cases r with | hys => simp at hr | _ => rfl, rfl⟩

/-- The register of RAW[k]. -/
def rawReg (k : Fin 3) : Reg :=
  match k with
  | 0 => .raw0
  | 1 => .raw1
  | 2 => .raw2

theorem setRaw_writes (k : Fin 3) (v : Sample) : WritesOnly [rawReg k] s (s.setRaw k v) := by
  match k with
  | 0 => exact ⟨fun r hr => by cases r with | raw0 => simp [rawReg] at hr | _ => rfl, rfl⟩
  | 1 => exact ⟨fun r hr => by cases r with | raw1 => simp [rawReg] at hr | _ => rfl, rfl⟩
  | 2 => exact ⟨fun r hr => by cases r with | raw2 => simp [rawReg] at hr | _ => rfl, rfl⟩

theorem setFlags_writes (v : BitVec 2) : WritesOnly [.flags] s (s.setFlags v) :=
  ⟨fun r hr => by cases r with | flags => simp at hr | _ => rfl, rfl⟩

theorem setPend_writes (k : Fin 3) (b : Bool) : WritesOnly [.pend] s (s.setPend k b) :=
  ⟨fun r hr => by cases r with | pend => simp at hr | _ => rfl, rfl⟩

theorem setPhase_writes (p : PhaseCode) : WritesOnly [.phase] s (s.setPhase p) :=
  ⟨fun r hr => by cases r with | phase => simp at hr | _ => rfl, rfl⟩

theorem setHtmr_writes (v : Count) : WritesOnly [.htmr] s (s.setHtmr v) :=
  ⟨fun r hr => by cases r with | htmr => simp at hr | _ => rfl, rfl⟩

theorem setHcmp_writes (v : Count) : WritesOnly [.hcmp] s (s.setHcmp v) :=
  ⟨fun r hr => by cases r with | hcmp => simp at hr | _ => rfl, rfl⟩

theorem setHie_writes (b : Bool) : WritesOnly [.hcon] s (s.setHie b) :=
  ⟨fun r hr => by cases r with | hcon => simp at hr | _ => rfl, rfl⟩

theorem setHeatOut_writes (b : Bool) : WritesOnly [.hcon] s (s.setHeatOut b) :=
  ⟨fun r hr => by cases r with | hcon => simp at hr | _ => rfl, rfl⟩

theorem setCduty_writes (v : Sample) : WritesOnly [.cduty] s (s.setCduty v) :=
  ⟨fun r hr => by cases r with | cduty => simp at hr | _ => rfl, rfl⟩

theorem setCpwmen_writes (b : Bool) : WritesOnly [.ccon] s (s.setCpwmen b) :=
  ⟨fun r hr => by cases r with | ccon => simp at hr | _ => rfl, rfl⟩

theorem setCpwmcnt_writes (v : Sample) : WritesOnly [.cpwmcnt] s (s.setCpwmcnt v) :=
  ⟨fun r hr => by cases r with | cpwmcnt => simp at hr | _ => rfl, rfl⟩

theorem setBtn_writes (k : Fin 3) (b : Bool) : WritesOnly [.btnr] s (s.setBtn k b) :=
  ⟨fun r hr => by cases r with | btnr => simp at hr | _ => rfl, rfl⟩

theorem setLatch_writes (n : Fin 5) (b : Bool) : WritesOnly [.ifr] s (s.setLatch n b) :=
  ⟨fun r hr => by cases r with | ifr => simp at hr | _ => rfl, rfl⟩

/-- The analog inputs are no registers (R39). -/
theorem setAdc_writes (k : Fin 3) (v : Sample) : WritesOnly [] s (s.setAdc k v) :=
  ⟨fun r _ => by cases r <;> rfl, rfl⟩

/-- Neither is the port record (log entry 5). -/
theorem issue_writes (e : PortEvent) : WritesOnly [] s (s.issue e) :=
  ⟨fun r _ => by cases r <;> rfl, rfl⟩

/-! ### The port operations (R280) -/

theorem portWdtrefresh_writes : WritesOnly [] s (portWdtrefresh s) := issue_writes s _

theorem portSample_writes (k : Fin 3) : WritesOnly [] s (portSample k s).2 := issue_writes s _

theorem portBtnstate_writes (k : Fin 3) : WritesOnly [] s (portBtnstate k s).2 := issue_writes s _

theorem portSethcmp_writes (v : Count) : WritesOnly [.hcmp] s (portSethcmp v s) :=
  (setHcmp_writes s v).trans (issue_writes _ _)

theorem portRsthtmr_writes : WritesOnly [.htmr] s (portRsthtmr s) :=
  (setHtmr_writes s _).trans (issue_writes _ _)

theorem portEnhint_zero_writes : WritesOnly [.hcon, .ifr] s (portEnhint 0#1 s) :=
  (((((setHie_writes s _).trans (setHeatOut_writes _ _)).trans (setLatch_writes _ _ _)).trans
    (setLatch_writes _ _ _)).trans (issue_writes _ _)).mono (by decide)

theorem portEnhint_one_writes : WritesOnly [.hcon] s (portEnhint 1#1 s) :=
  (setHie_writes s _).trans (issue_writes _ _)

theorem portEnhint_writes (b : BitVec 1) : WritesOnly [.hcon, .ifr] s (portEnhint b s) := by
  obtain rfl | rfl := BitVec.eq_zero_or_eq_one b
  · exact portEnhint_zero_writes s
  · exact (portEnhint_one_writes s).mono (by decide)

theorem portSethout_writes (b : BitVec 1) : WritesOnly [.hcon] s (portSethout b s) :=
  (setHeatOut_writes s _).trans (issue_writes _ _)

theorem portSetcduty_writes (v : Sample) : WritesOnly [.cduty] s (portSetcduty v s) :=
  (setCduty_writes s v).trans (issue_writes _ _)

theorem portEncpwm_writes (b : BitVec 1) : WritesOnly [.ccon] s (portEncpwm b s) :=
  (setCpwmen_writes s _).trans (issue_writes _ _)

theorem portDispline_writes (r : BitVec 2) : WritesOnly [] s (portDispline r s) := issue_writes s _

/-! ### The shapes of the phases -/

theorem refreshThen_writes (next : PhaseCode) : WritesOnly [.phase] s (refreshThen next s) :=
  (portWdtrefresh_writes s).trans (setPhase_writes _ _)

theorem sampleThen_writes (k : Fin 3) (next : PhaseCode) :
    WritesOnly [rawReg k, .phase] s (sampleThen k next s) :=
  ((portSample_writes s k).trans (setRaw_writes _ k _)).trans (setPhase_writes _ _)

theorem checkEvent_writes (k : Fin 3) (settle next : PhaseCode) :
    WritesOnly [.pend, .phase] s (checkEvent k settle next s) := by
  unfold checkEvent
  split
  · exact (setPend_writes s k false).trans (setPhase_writes _ _)
  · exact (setPhase_writes s next).mono (by decide)

theorem confirmEvent_writes (k : Fin 3) {action : State → State} {ws : List Reg}
    (haction : ∀ s, WritesOnly ws s (action s)) (waitrel next : PhaseCode) :
    WritesOnly (ws ++ [.phase]) s (confirmEvent k action waitrel next s) := by
  unfold confirmEvent
  split
  · exact ((portBtnstate_writes s k).trans (haction _)).trans (setPhase_writes _ _)
  · exact ((portBtnstate_writes s k).trans (setPhase_writes _ _)).mono (by simp)

theorem waitRelease_writes (k : Fin 3) (waitrel relsettle : PhaseCode) :
    WritesOnly [.phase] s (waitRelease k waitrel relsettle s) := by
  have hport := (portWdtrefresh_writes s).trans (portBtnstate_writes _ k)
  unfold waitRelease
  split
  all_goals exact hport.trans (setPhase_writes _ _)

theorem renderRows_writes : WritesOnly [] s (renderRows s) :=
  (((portDispline_writes s _).trans (portDispline_writes _ _)).trans (portDispline_writes _ _)).trans
    (portDispline_writes _ _)

theorem actionStep1_writes (a : Action) : WritesOnly [.hcon, .ifr, .ccon] s (actionStep1 a s) := by
  cases a with
  | off | idle => exact (portEnhint_zero_writes s).mono (by decide)
  | heat => exact (portEncpwm_writes s _).mono (by decide)
  | cool => exact (portSethout_writes s _).mono (by decide)

theorem actionStep2_writes (a : Action) :
    WritesOnly [.hcon, .ifr, .ccon, .cduty] s (actionStep2 a s) := by
  cases a with
  | off | idle => exact (portEncpwm_writes s _).mono (by decide)
  | heat => exact (portSetcduty_writes s _).mono (by decide)
  | cool => exact (portEnhint_zero_writes s).mono (by decide)

theorem actionStep3_writes (a : Action) : WritesOnly [.hcon, .ccon] s (actionStep3 a s) := by
  cases a with
  | off | idle => exact (portSethout_writes s _).mono (by decide)
  | heat => exact (portEnhint_one_writes s).mono (by decide)
  | cool => exact (portEncpwm_writes s _).mono (by decide)

theorem actionStep4_writes (a : Action) : WritesOnly [.cduty, .hcmp] s (actionStep4 a s) := by
  cases a with
  | off | idle | cool => exact (portSetcduty_writes s _).mono (by decide)
  | heat => exact (portSethcmp_writes s _).mono (by decide)

theorem serveInterrupt_writes (n : Fin 5) {body : State → State} {ws : List Reg}
    (hbody : WritesOnly ws s (body s)) : WritesOnly (ws ++ [.ifr]) s (serveInterrupt n body s) :=
  hbody.trans (setLatch_writes _ n false)

/-! ### The steps without an encoding -/

theorem htick_writes : WritesOnly [.htmr, .ifr] s (htick s) := by
  rw [htick_eq]
  exact ⟨fun r hr => by cases r with | htmr | ifr => simp at hr | _ => rfl, rfl⟩

theorem envBtn_writes (k : Fin 3) (v : Bool) : WritesOnly [.btnr, .ifr] s (envBtn k v s) := by
  unfold envBtn
  split
  · exact ⟨fun _ _ => rfl, rfl⟩
  · exact (setBtn_writes s k v).trans (setLatch_writes _ _ _)

theorem takeStep_writes (a : UnencodedStep) : WritesOnly (mayWrite (.take a)) s (takeStep a s) := by
  cases a with
  | htick => exact htick_writes s
  | ctick => exact setCpwmcnt_writes s _
  | envBtn k v => exact envBtn_writes s k v
  | envAdc k v => exact setAdc_writes s k v
  | reset => exact ⟨fun r hr => absurd (by cases r <;> decide) hr, rfl⟩

end Updates

/-! ### Operations and steps -/

/-- Every operation writes at most the registers its word's turn owns (R280, R320, R326). -/
theorem exec_writes {i : Instr} {s t : State} (h : exec i s = .next t) :
    WritesOnly (mayWrite (.run (encode i))) s t := by
  cases i with
  | wdtrefresh => cases h; exact (portWdtrefresh_writes s).mono (by simp)
  | sample ch =>
    obtain ⟨k, rfl⟩ := execSample_next h
    exact (portSample_writes s k).mono (by simp)
  | btnstate id =>
    obtain ⟨k, rfl⟩ := execBtnstate_next h
    exact (portBtnstate_writes s k).mono (by simp)
  | sethcmp v => cases h; exact (portSethcmp_writes s v).mono (by simp [mayWrite, encode, cmdWord])
  | rsthtmr => cases h; exact (portRsthtmr_writes s).mono (by decide)
  | enhint b => cases h; exact (portEnhint_writes s b).mono (by simp [mayWrite, encode, cmdWord])
  | sethout b => cases h; exact (portSethout_writes s b).mono (by simp [mayWrite, encode, cmdWord])
  | setcduty v => cases h; exact (portSetcduty_writes s v).mono (by simp [mayWrite, encode, cmdWord])
  | encpwm b => cases h; exact (portEncpwm_writes s b).mono (by simp [mayWrite, encode, cmdWord])
  | displine r => cases h; exact (portDispline_writes s r).mono (by simp)
  | irqTmrovf =>
    cases h
    exact serveInterrupt_writes s 0 (body := handlerBody 0)
      ((setHeatOut_writes s true).trans (portRsthtmr_writes _))
  | irqCmpmatch =>
    cases h
    exact serveInterrupt_writes s 1 (body := handlerBody 1) (setHeatOut_writes s false)
  | irqBtn0edge => cases h; exact serveInterrupt_writes s 2 (body := handlerBody 2) (setPend_writes s 0 true)
  | irqBtn1edge => cases h; exact serveInterrupt_writes s 3 (body := handlerBody 3) (setPend_writes s 1 true)
  | irqBtn2edge => cases h; exact serveInterrupt_writes s 4 (body := handlerBody 4) (setPend_writes s 2 true)
  | seqSSamp0 | seqSSamp1 | seqSSamp2 => cases h; exact (sampleThen_writes s _ _).mono (by decide)
  | seqSEv0Check | seqSEv1Check | seqSEv2Check =>
    cases h
    exact (checkEvent_writes s _ _ _).mono (by decide)
  | seqSEv0Confirm =>
    cases h
    exact (confirmEvent_writes s 0 (fun s => setMode_writes s _) _ _).mono (by decide)
  | seqSEv1Confirm =>
    cases h
    exact (confirmEvent_writes s 1 (fun s => setHys_writes s _) _ _).mono (by decide)
  | seqSEv2Confirm =>
    cases h
    exact (confirmEvent_writes s 2 (fun s => setMode_writes s _) _ _).mono (by decide)
  | seqSEv0Waitrel | seqSEv1Waitrel | seqSEv2Waitrel => cases h; exact waitRelease_writes s _ _ _
  | seqSRender => cases h; exact (renderRows_writes s).trans (setPhase_writes _ _)
  | seqSExec0 =>
    cases h
    exact ((setFlags_writes s _).trans (setPhase_writes _ _)).mono (by decide)
  | seqSExec1 =>
    cases h
    exact ((actionStep1_writes s _).trans (setPhase_writes _ _)).mono (by decide)
  | seqSExec2 =>
    cases h
    exact ((actionStep2_writes s _).trans (setPhase_writes _ _)).mono (by decide)
  | seqSExec3 =>
    cases h
    exact ((actionStep3_writes s _).trans (setPhase_writes _ _)).mono (by decide)
  | seqSExec4 =>
    cases h
    exact ((actionStep4_writes s _).trans (setPhase_writes _ _)).mono (by decide)
  | seqSWdt | seqSEv0Settle | seqSEv0Relsettle | seqSEv1Settle | seqSEv1Relsettle | seqSEv2Settle
  | seqSEv2Relsettle | seqSPace => cases h; exact refreshThen_writes s _

/-- Settles O49: an encoded step by its operation, whose word is the turn's, any other by itself. -/
theorem everyRegisterHasItsWriters : Obligations.EveryRegisterHasItsWriters := by
  intro s t r hstep hr
  obtain ⟨w, i, hturn, hdec, hexec⟩ | ⟨a, hturn, rfl⟩ := step_cases hstep
  · obtain ⟨_, rfl⟩ := encodeOfDecodeIsIdentity w i hdec
    rw [hturn] at hr
    exact ((exec_writes hexec).read_eq r hr).trans (read_beginTurn r _ s)
  · rw [hturn] at hr
    exact ((takeStep_writes _ a).read_eq r hr).trans (read_beginTurn r _ s)

end Sys2Proof.Machine

/-! SUPPORT. The sequencer of 44_sequencer: every phase is a total function that reads no timer, its
successor, and runs of several sequencer steps with nothing requested. -/

namespace Sys2Proof.Machine

/-! ### The registers no phase reads (R327) -/

/-- The seven registers of the timers, their drives and the request latches. -/
structure Timers where
  htmr : Count
  hcmp : Count
  hcon : BitVec 2
  cduty : Sample
  ccon : BitVec 1
  cpwmcnt : Sample
  ifr : BitVec 5

/-- `s` with the values of `x` in the seven registers. -/
def State.withTimers (s : State) (x : Timers) : State :=
  { s with
    htmr := x.htmr, hcmp := x.hcmp, hcon := x.hcon, cduty := x.cduty, ccon := x.ccon
    cpwmcnt := x.cpwmcnt, ifr := x.ifr }

/-- Whatever the seven registers hold, `f` does the same to everything else. -/
def IgnoresTimers (f : State → State) : Prop :=
  ∀ (s : State) (x : Timers), ∃ y : Timers, f (s.withTimers x) = (f s).withTimers y

theorem IgnoresTimers.comp {f g : State → State} (hg : IgnoresTimers g) (hf : IgnoresTimers f) :
    IgnoresTimers fun s => g (f s) := by
  intro s x
  obtain ⟨y, hy⟩ := hf s x
  simp only [hy]
  exact hg (f s) y

theorem setPhase_ignoresTimers (p : PhaseCode) : IgnoresTimers (·.setPhase p) := fun _ x => ⟨x, rfl⟩

theorem setFlags_select_ignoresTimers : IgnoresTimers fun s => s.setFlags (actionFlags (select s)) :=
  fun _ x => ⟨x, rfl⟩

theorem refreshThen_ignoresTimers (next : PhaseCode) : IgnoresTimers (refreshThen next) :=
  fun _ x => ⟨x, rfl⟩

theorem sampleThen_ignoresTimers (k : Fin 3) (next : PhaseCode) : IgnoresTimers (sampleThen k next) :=
  fun _ x => ⟨x, rfl⟩

theorem renderRows_ignoresTimers : IgnoresTimers renderRows := fun _ x => ⟨x, rfl⟩

theorem waitRelease_ignoresTimers (k : Fin 3) (waitrel relsettle : PhaseCode) :
    IgnoresTimers (waitRelease k waitrel relsettle) := by
  intro s x
  refine ⟨x, ?_⟩
  rw [waitRelease_eq, waitRelease_eq]
  rfl

theorem checkEvent_ignoresTimers (k : Fin 3) (settle next : PhaseCode) :
    IgnoresTimers (checkEvent k settle next) := by
  intro s x
  refine ⟨x, ?_⟩
  have hpend : (s.withTimers x).pendBit k = s.pendBit k := rfl
  cases h : s.pendBit k with
  | true => rw [checkEvent_set _ _ _ _ (hpend.trans h), checkEvent_set _ _ _ _ h]; rfl
  | false => rw [checkEvent_clear _ _ _ _ (hpend.trans h), checkEvent_clear _ _ _ _ h]; rfl

theorem confirmEvent_ignoresTimers (k : Fin 3) {action : State → State} (haction : IgnoresTimers action)
    (waitrel next : PhaseCode) : IgnoresTimers (confirmEvent k action waitrel next) := by
  intro s x
  have hbtn : (s.withTimers x).btn k = s.btn k := rfl
  cases h : s.btn k with
  | true =>
    rw [confirmEvent_released _ _ _ _ _ (hbtn.trans h), confirmEvent_released _ _ _ _ _ h]
    exact ⟨x, rfl⟩
  | false =>
    rw [confirmEvent_asserted _ _ _ _ _ (hbtn.trans h), confirmEvent_asserted _ _ _ _ _ h]
    exact (setPhase_ignoresTimers waitrel).comp haction { s with port := s.port ++ [.btnstate k true] } x

/-! The command words of an action write the drives, and read RAW[1] at most (R221 to R224). -/

theorem actionStep1_ignoresTimers (a : Action) : IgnoresTimers (actionStep1 a) := by
  cases a <;> exact fun _ _ => ⟨⟨_, _, _, _, _, _, _⟩, rfl⟩

theorem actionStep2_ignoresTimers (a : Action) : IgnoresTimers (actionStep2 a) := by
  cases a <;> exact fun _ _ => ⟨⟨_, _, _, _, _, _, _⟩, rfl⟩

theorem actionStep3_ignoresTimers (a : Action) : IgnoresTimers (actionStep3 a) := by
  cases a <;> exact fun _ _ => ⟨⟨_, _, _, _, _, _, _⟩, rfl⟩

theorem actionStep4_ignoresTimers (a : Action) : IgnoresTimers (actionStep4 a) := by
  cases a <;> exact fun _ _ => ⟨⟨_, _, _, _, _, _, _⟩, rfl⟩

/-- An action's step with the action selected as the state stands. -/
theorem selectedStep_ignoresTimers {f : Action → State → State} (hf : ∀ a, IgnoresTimers (f a)) :
    IgnoresTimers fun s => f (select s) s := fun s x => hf (select s) s x

/-- Every phase code's operation answers a next state, a function of the state that ignores the timers. -/
theorem exists_function_of_decodePH {p : PhaseCode} {i : Instr} (hdec : decodePH p = .ok i) :
    ∃ f : State → State, IgnoresTimers f ∧ ∀ s, exec i s = .next (f s) := by
  have hword := encode_of_decodePH hdec
  cases i with
  | seqSWdt | seqSEv0Settle | seqSEv0Relsettle | seqSEv1Settle | seqSEv1Relsettle | seqSEv2Settle
  | seqSEv2Relsettle | seqSPace => exact ⟨_, refreshThen_ignoresTimers _, fun _ => rfl⟩
  | seqSSamp0 | seqSSamp1 | seqSSamp2 => exact ⟨_, sampleThen_ignoresTimers _ _, fun _ => rfl⟩
  | seqSEv0Check | seqSEv1Check | seqSEv2Check =>
    exact ⟨_, checkEvent_ignoresTimers _ _ _, fun _ => rfl⟩
  | seqSEv0Confirm =>
    exact ⟨_, confirmEvent_ignoresTimers 0 (action := advanceMode) (fun _ x => ⟨x, rfl⟩) _ _, fun _ => rfl⟩
  | seqSEv1Confirm =>
    exact ⟨_, confirmEvent_ignoresTimers 1 (action := advanceHysteresis) (fun _ x => ⟨x, rfl⟩) _ _,
      fun _ => rfl⟩
  | seqSEv2Confirm =>
    exact ⟨_, confirmEvent_ignoresTimers 2 (action := forceOff) (fun _ x => ⟨x, rfl⟩) _ _, fun _ => rfl⟩
  | seqSEv0Waitrel | seqSEv1Waitrel | seqSEv2Waitrel =>
    exact ⟨_, waitRelease_ignoresTimers _ _ _, fun _ => rfl⟩
  | seqSRender => exact ⟨_, (setPhase_ignoresTimers _).comp renderRows_ignoresTimers, fun _ => rfl⟩
  | seqSExec0 => exact ⟨_, (setPhase_ignoresTimers _).comp setFlags_select_ignoresTimers, fun _ => rfl⟩
  | seqSExec1 =>
    have hstep := selectedStep_ignoresTimers actionStep1_ignoresTimers
    exact ⟨_, (setPhase_ignoresTimers sExec2).comp hstep, fun _ => rfl⟩
  | seqSExec2 =>
    have hstep := selectedStep_ignoresTimers actionStep2_ignoresTimers
    exact ⟨_, (setPhase_ignoresTimers sExec3).comp hstep, fun _ => rfl⟩
  | seqSExec3 =>
    have hstep := selectedStep_ignoresTimers actionStep3_ignoresTimers
    exact ⟨_, (setPhase_ignoresTimers sExec4).comp hstep, fun _ => rfl⟩
  | seqSExec4 =>
    have hstep := selectedStep_ignoresTimers actionStep4_ignoresTimers
    exact ⟨_, (setPhase_ignoresTimers sPace).comp hstep, fun _ => rfl⟩
  | _ => cases hword

/-- Settles O53: the two states differ in what `withTimers` writes, and so do the states after. -/
theorem sequencerDoesNotReadTheTimers : Obligations.SequencerDoesNotReadTheTimers := by
  intro p i hdec s htmr hcmp hcon cduty cnt ccon ifr
  obtain ⟨f, hignores, hexec⟩ := exists_function_of_decodePH hdec
  obtain ⟨y, hy⟩ := hignores s ⟨htmr, hcmp, hcon, cduty, ccon, cnt, ifr⟩
  refine ⟨f s, (f s).withTimers y, hexec s, ?_, rfl, rfl, rfl, rfl, rfl, rfl, rfl, rfl, rfl⟩
  rw [← hy]
  exact hexec _

/-! ### The successor of a phase (R265) -/

/-- The event whose processing the phase code belongs to: codes 4 to 8, 9 to 13 and 14 to 18 (R136). -/
def eventOf (p : PhaseCode) : Fin 3 :=
  if p.toNat < 9 then 0 else if p.toNat < 14 then 1 else 2

/-- The phase after `p`, given whether its event is pending and its button released. -/
def successor (p : PhaseCode) (pending released : Bool) : PhaseCode :=
  match p.toNat with
  | 4 => if pending = true then sEv0Settle else sEv1Check
  | 6 => if released = true then sEv1Check else sEv0Waitrel
  | 7 => if released = true then sEv0Relsettle else sEv0Waitrel
  | 9 => if pending = true then sEv1Settle else sEv2Check
  | 11 => if released = true then sEv2Check else sEv1Waitrel
  | 12 => if released = true then sEv1Relsettle else sEv1Waitrel
  | 14 => if pending = true then sEv2Settle else sRender
  | 16 => if released = true then sRender else sEv2Waitrel
  | 17 => if released = true then sEv2Relsettle else sEv2Waitrel
  | 25 => sWdt
  | _ => p + 1#5

theorem successor_plain : ∀ (p : PhaseCode) (pending released : Bool),
    p.toNat ∈ [0, 1, 2, 3, 19, 20, 21, 22, 23, 24] → (successor p pending released).toNat = p.toNat + 1 := by
  decide

theorem eventOf_eq : ∀ (p : PhaseCode) (k : Fin 3),
    4 + 5 * k.val ≤ p.toNat → p.toNat ≤ 8 + 5 * k.val → eventOf p = k := by decide

/-- The five phases of event `k`, in order. -/
theorem successor_event : ∀ (p : PhaseCode) (k : Fin 3) (pending released : Bool),
    (p.toNat = 4 + 5 * k.val → (successor p pending released).toNat =
      if pending = true then 5 + 5 * k.val else (nextEvent k).toNat) ∧
    (p.toNat = 5 + 5 * k.val → (successor p pending released).toNat = 6 + 5 * k.val) ∧
    (p.toNat = 6 + 5 * k.val → (successor p pending released).toNat =
      if released = false then 7 + 5 * k.val else (nextEvent k).toNat) ∧
    (p.toNat = 7 + 5 * k.val → (successor p pending released).toNat =
      if released = true then 8 + 5 * k.val else 7 + 5 * k.val) ∧
    (p.toNat = 8 + 5 * k.val → (successor p pending released).toNat = (nextEvent k).toNat) := by
  decide

theorem exec_successor {p : PhaseCode} {i : Instr} {s t : State} (hdec : decodePH p = .ok i)
    (h : exec i s = .next t) : t.phase = successor p (s.pendBit (eventOf p)) (s.btn (eventOf p)) := by
  have hword := encode_of_decodePH hdec
  cases i with
  | seqSEv0Check | seqSEv1Check | seqSEv2Check =>
    cases hword
    cases h
    exact checkEvent_phase _ _ _ s
  | seqSEv0Confirm | seqSEv1Confirm | seqSEv2Confirm =>
    cases hword
    cases h
    exact confirmEvent_phase _ _ _ _ s
  | seqSEv0Waitrel | seqSEv1Waitrel | seqSEv2Waitrel =>
    cases hword
    cases h
    exact waitRelease_phase _ _ _ s
  | seqSWdt | seqSSamp0 | seqSSamp1 | seqSSamp2 | seqSEv0Settle | seqSEv0Relsettle | seqSEv1Settle
  | seqSEv1Relsettle | seqSEv2Settle | seqSEv2Relsettle | seqSRender | seqSExec0 | seqSExec1
  | seqSExec2 | seqSExec3 | seqSExec4 | seqSPace =>
    cases hword
    cases h
    rfl
  | _ => cases hword

/-- A sequencer turn at a legal code runs the phase of that code. -/
theorem step_sequencer {s : State} (hcmd : s.cmd = none) (hoffer : offer s = .seq)
    (hpend : pendingSource s = none) (hlegal : s.phase.toNat ≤ 25) :
    ∃ i t, decodePH s.phase = .ok i ∧ step s = .next t ∧
      exec i (beginTurn (.run (.ph s.phase)) s) = .next t := by
  obtain ⟨i, hdec⟩ := exists_decodePH hlegal
  obtain ⟨f, _, hexec⟩ := exists_function_of_decodePH hdec
  exact ⟨i, _, hdec, (step_of_nextTurn_run (nextTurn_seq hcmd hoffer hpend) hdec).trans (hexec _), hexec _⟩

/-- Settles O54: the step's phase is `successor`, whose tables are those of the statement. -/
theorem successorOfEveryPhase : Obligations.SuccessorOfEveryPhase := by
  intro s hcmd hoffer hpend hlegal
  obtain ⟨i, t, hdec, hstep, hexec⟩ := step_sequencer hcmd hoffer hpend hlegal
  have hphase : t.phase = successor s.phase (s.pendBit (eventOf s.phase)) (s.btn (eventOf s.phase)) :=
    (exec_successor hdec hexec).trans rfl
  refine ⟨t, hstep, fun hplain => ?_, fun hpace => ?_, fun k => ?_⟩
  · rw [hphase]
    exact successor_plain _ _ _ hplain
  · have hcode : s.phase = sPace := BitVec.eq_of_toNat_eq hpace
    rw [hphase, hcode]
    rfl
  · have hat (hlow : 4 + 5 * k.val ≤ s.phase.toNat) (hhigh : s.phase.toNat ≤ 8 + 5 * k.val) :
        t.phase = successor s.phase (s.pendBit k) (s.btn k) := by
      rw [hphase, eventOf_eq s.phase k hlow hhigh]
    obtain ⟨hcheck, hsettle, hconfirm, hwaitrel, hrelsettle⟩ :=
      successor_event s.phase k (s.pendBit k) (s.btn k)
    refine ⟨fun h => ?_, fun h => ?_, fun h => ?_, fun h => ?_, fun h => ?_⟩
    · rw [hat (by omega) (by omega), hcheck h]
    · rw [hat (by omega) (by omega), hsettle h]
    · rw [hat (by omega) (by omega), hconfirm h]
    · rw [hat (by omega) (by omega), hwaitrel h]
    · rw [hat (by omega) (by omega), hrelsettle h]

/-! ### The watchdog (R330) -/

/-- The phases that refresh the watchdog: S_WDT, the seven delays and the three WAITREL. -/
def refreshPhases : List PhaseCode :=
  [sWdt, sEv0Settle, sEv0Waitrel, sEv0Relsettle, sEv1Settle, sEv1Waitrel, sEv1Relsettle, sEv2Settle,
    sEv2Waitrel, sEv2Relsettle, sPace]

theorem exec_refreshPhase {p : PhaseCode} {i : Instr} {s t : State} (hp : p ∈ refreshPhases)
    (hdec : decodePH p = .ok i) (h : exec i s = .next t) : .wdtrefresh ∈ t.port := by
  fin_cases hp
  all_goals
    cases hdec
    cases h
    simp [refreshThen_eq, waitRelease_eq]

/-- At a phase without a refresh the rank falls, whichever branch is taken. -/
theorem refreshRank_successor : ∀ (p : PhaseCode) (pending released : Bool), p.toNat ≤ 25 →
    p ∈ refreshPhases ∨ refreshRank (successor p pending released) < refreshRank p := by decide

/-- Settles O55, by whether the phase is one that refreshes. -/
theorem watchdogIsRefreshedWithinThirteenSteps : Obligations.WatchdogIsRefreshedWithinThirteenSteps := by
  refine ⟨by decide, fun s hcmd hoffer hpend hlegal => ?_⟩
  obtain ⟨i, t, hdec, hstep, hexec⟩ := step_sequencer hcmd hoffer hpend hlegal
  refine ⟨t, hstep, ?_⟩
  obtain hrefresh | hfalls := refreshRank_successor s.phase (s.pendBit (eventOf s.phase))
    (s.btn (eventOf s.phase)) hlegal
  · exact .inl (List.count_pos_iff.mpr (exec_refreshPhase hrefresh hdec hexec))
  · right
    rw [exec_successor hdec hexec]
    exact hfalls

/-! ### Runs of the sequencer with nothing requested -/

theorem run_succ {n : Nat} {s t : State} (h : step s = .next t) :
    Sys2Proof.core.run (n + 1) s = Sys2Proof.core.run n t := by
  simp only [Host.Core.run, Sys2Proof.core, h]

theorem run_add {m n : Nat} {s t : State} (h : Sys2Proof.core.run m s = .next t) :
    Sys2Proof.core.run (m + n) s = Sys2Proof.core.run n t := by
  induction m generalizing s with
  | zero => cases h; rw [Nat.zero_add]
  | succ m ih =>
    rw [Nat.succ_add]
    cases hstep : step s with
    | next u =>
      rw [run_succ hstep] at h ⊢
      exact ih h
    | fault r => cases r
    | refused r => simp [Host.Core.run, Sys2Proof.core, hstep] at h

/-- The sequencer's turn at the head of the agenda, with no latch set, runs the phase. -/
theorem step_phase {s : State} {rest : List AgentStep} {i : Instr} (hcmd : s.cmd = none)
    (hifr : s.ifr = 0#5) (hagenda : s.agenda = .seq :: rest) (hdec : decodePH s.phase = .ok i) :
    step s = exec i { s with port := [], clock := s.clock + 1, agenda := rest } := by
  have hoffer : offer s = .seq := by simp [offer, hagenda]
  rw [step_of_nextTurn_run (nextTurn_seq hcmd hoffer (pendingSource_of_ifr_zero hifr)) hdec]
  simp [beginTurn, dropOffer, freshTurn, hagenda]

theorem run_phase {n : Nat} {s t : State} {rest : List AgentStep} {i : Instr} (hcmd : s.cmd = none)
    (hifr : s.ifr = 0#5) (hagenda : s.agenda = .seq :: rest) (hdec : decodePH s.phase = .ok i)
    (hexec : exec i { s with port := [], clock := s.clock + 1, agenda := rest } = .next t) :
    Sys2Proof.core.run (n + 1) s = Sys2Proof.core.run n t :=
  run_succ ((step_phase hcmd hifr hagenda hdec).trans hexec)

/-! ### A noise event (R152) -/

/-- CHECK, SETTLE and CONFIRM of event `k`, at its codes. -/
theorem exec_check (k : Fin 3) :
    ∃ i, decodePH (BitVec.ofNat 5 (4 + 5 * k.val)) = .ok i ∧
      ∀ s, exec i s = .next (checkEvent k (BitVec.ofNat 5 (5 + 5 * k.val)) (nextEvent k) s) := by
  match k with
  | 0 | 1 | 2 => exact ⟨_, rfl, fun _ => rfl⟩

theorem exec_settle (k : Fin 3) :
    ∃ i, decodePH (BitVec.ofNat 5 (5 + 5 * k.val)) = .ok i ∧
      ∀ s, exec i s = .next (refreshThen (BitVec.ofNat 5 (6 + 5 * k.val)) s) := by
  match k with
  | 0 | 1 | 2 => exact ⟨_, rfl, fun _ => rfl⟩

theorem exec_confirm (k : Fin 3) :
    ∃ i action, decodePH (BitVec.ofNat 5 (6 + 5 * k.val)) = .ok i ∧
      ∀ s, exec i s =
        .next (confirmEvent k action (BitVec.ofNat 5 (7 + 5 * k.val)) (nextEvent k) s) := by
  match k with
  | 0 | 1 | 2 => exact ⟨_, _, rfl, fun _ => rfl⟩

/-- Settles O56: CHECK finds the flag, SETTLE refreshes, CONFIRM reads the button released. -/
theorem noiseIsDiscardedInThreeSteps : Obligations.NoiseIsDiscardedInThreeSteps := by
  intro s k rest hcmd hifr hagenda hphase hpending hreleased
  have hcode : s.phase = BitVec.ofNat 5 (4 + 5 * k.val) := by rw [← hphase]; simp
  obtain ⟨_, hcheck, hexecCheck⟩ := exec_check k
  obtain ⟨_, hsettle, hexecSettle⟩ := exec_settle k
  obtain ⟨_, _, hconfirm, hexecConfirm⟩ := exec_confirm k
  calc Sys2Proof.core.run 3 s
      = Sys2Proof.core.run 2 { s with
          pend := setBit s.pend k false, phase := BitVec.ofNat 5 (5 + 5 * k.val)
          agenda := .seq :: .seq :: rest, clock := s.clock + 1, port := [] } :=
        run_phase hcmd hifr hagenda (hcode ▸ hcheck)
          ((hexecCheck _).trans (congrArg _ (checkEvent_set k _ _ _ hpending)))
    _ = Sys2Proof.core.run 1 { s with
          pend := setBit s.pend k false, phase := BitVec.ofNat 5 (6 + 5 * k.val)
          agenda := .seq :: rest, clock := s.clock + 2, port := [.wdtrefresh] } :=
        run_phase hcmd hifr rfl hsettle (hexecSettle _)
    _ = .next { s with
          pend := setBit s.pend k false, phase := nextEvent k, agenda := rest, clock := s.clock + 3
          port := [.btnstate k false] } :=
        run_phase hcmd hifr rfl hconfirm
          ((hexecConfirm _).trans (congrArg _ (confirmEvent_released k _ _ _ _ hreleased)))

/-! ### The five steps of an action (R221 to R224) -/

/-- ENHINT 0 clears the heater latches, which nothing has set. -/
theorem and_latches_of_ifr_zero {v : BitVec 5} (h : v = 0#5) : v &&& 0b11100#5 = v := by
  rw [h]; rfl

/-- ACT_OFF and ACT_IDLE: heater off, cooler off, output low, duty 0. -/
theorem run_shutOff {s : State} {rest : List AgentStep} (hcmd : s.cmd = none) (hifr : s.ifr = 0#5)
    (hphase : s.phase = 20#5) (hagenda : s.agenda = List.replicate 5 .seq ++ rest)
    (hselect : select s = .off ∨ select s = .idle) :
    Sys2Proof.core.run 5 s = .next { s with
      flags := 0b00#2, hcon := 0b00#2, ccon := 0#1, cduty := 0#10, port := [.setcduty 0#10]
      phase := 25#5, agenda := rest, clock := s.clock + 5 } := by
  have hquiet := and_latches_of_ifr_zero hifr
  calc Sys2Proof.core.run 5 s
      = Sys2Proof.core.run 4 { s with
          flags := 0b00#2
          phase := 21#5, agenda := List.replicate 4 .seq ++ rest, clock := s.clock + 1, port := [] } :=
        run_phase hcmd hifr hagenda (hphase ▸ rfl) ((exec0WritesTheFlagsOfTheAction _).1 hselect)
    _ = Sys2Proof.core.run 3 { s with
          flags := 0b00#2, hcon := 0b00#2, ifr := s.ifr &&& 0b11100#5
          phase := 22#5, agenda := List.replicate 3 .seq ++ rest, clock := s.clock + 2
          port := [.enhint 0#1] } :=
        run_phase hcmd hifr rfl rfl ((exec1IssuesTheFirstStep _).1 hselect)
    _ = Sys2Proof.core.run 2 { s with
          flags := 0b00#2, hcon := 0b00#2, ifr := s.ifr &&& 0b11100#5, ccon := 0#1
          phase := 23#5, agenda := List.replicate 2 .seq ++ rest, clock := s.clock + 3
          port := [.encpwm 0#1] } :=
        run_phase hcmd (hquiet.trans hifr) rfl rfl ((exec2IssuesTheSecondStep _).1 hselect)
    _ = Sys2Proof.core.run 1 { s with
          flags := 0b00#2, hcon := 0b00#2 &&& 0b01#2, ifr := s.ifr &&& 0b11100#5, ccon := 0#1
          phase := 24#5, agenda := List.replicate 1 .seq ++ rest, clock := s.clock + 4
          port := [.sethout 0#1] } :=
        run_phase hcmd (hquiet.trans hifr) rfl rfl ((exec3IssuesTheThirdStep _).1 hselect)
    _ = .next { s with
          flags := 0b00#2, hcon := 0b00#2 &&& 0b01#2, ifr := s.ifr &&& 0b11100#5, ccon := 0#1, cduty := 0#10
          phase := 25#5, agenda := rest, clock := s.clock + 5, port := [.setcduty 0#10] } :=
        run_phase hcmd (hquiet.trans hifr) rfl rfl ((exec4LoadsCompareOrDuty _).1 hselect)
    _ = _ := by rw [hquiet]; rfl

/-- ACT_HEAT: cooler off, duty 0, heater enabled, compare value loaded. -/
theorem run_heat {s : State} {rest : List AgentStep} (hcmd : s.cmd = none) (hifr : s.ifr = 0#5)
    (hphase : s.phase = 20#5) (hagenda : s.agenda = List.replicate 5 .seq ++ rest)
    (hselect : select s = .heat) :
    Sys2Proof.core.run 5 s = .next { s with
      flags := 0b01#2, hcon := s.hcon ||| 0b01#2, ccon := 0#1, cduty := 0#10
      hcmp := BitVec.ofNat 16 (s.raw1.toNat * 64), port := [.sethcmp (BitVec.ofNat 16 (s.raw1.toNat * 64))]
      phase := 25#5, agenda := rest, clock := s.clock + 5 } := by
  have hwrap : BitVec.ofNat 16 (s.raw1.toNat * 64 % 65536) = BitVec.ofNat 16 (s.raw1.toNat * 64) :=
    BitVec.eq_of_toNat_eq (by simp)
  calc Sys2Proof.core.run 5 s
      = Sys2Proof.core.run 4 { s with
          flags := 0b01#2
          phase := 21#5, agenda := List.replicate 4 .seq ++ rest, clock := s.clock + 1, port := [] } :=
        run_phase hcmd hifr hagenda (hphase ▸ rfl) ((exec0WritesTheFlagsOfTheAction _).2.1 hselect)
    _ = Sys2Proof.core.run 3 { s with
          flags := 0b01#2, ccon := 0#1
          phase := 22#5, agenda := List.replicate 3 .seq ++ rest, clock := s.clock + 2
          port := [.encpwm 0#1] } :=
        run_phase hcmd hifr rfl rfl ((exec1IssuesTheFirstStep _).2.1 hselect)
    _ = Sys2Proof.core.run 2 { s with
          flags := 0b01#2, ccon := 0#1, cduty := 0#10
          phase := 23#5, agenda := List.replicate 2 .seq ++ rest, clock := s.clock + 3
          port := [.setcduty 0#10] } :=
        run_phase hcmd hifr rfl rfl ((exec2IssuesTheSecondStep _).2.1 hselect)
    _ = Sys2Proof.core.run 1 { s with
          flags := 0b01#2, ccon := 0#1, cduty := 0#10, hcon := s.hcon ||| 0b01#2
          phase := 24#5, agenda := List.replicate 1 .seq ++ rest, clock := s.clock + 4
          port := [.enhint 1#1] } :=
        run_phase hcmd hifr rfl rfl ((exec3IssuesTheThirdStep _).2.1 hselect)
    _ = .next { s with
          flags := 0b01#2, ccon := 0#1, cduty := 0#10, hcon := s.hcon ||| 0b01#2
          hcmp := BitVec.ofNat 16 (s.raw1.toNat * 64 % 65536)
          phase := 25#5, agenda := rest, clock := s.clock + 5
          port := [.sethcmp (BitVec.ofNat 16 (s.raw1.toNat * 64 % 65536))] } :=
        run_phase hcmd hifr rfl rfl ((exec4LoadsCompareOrDuty _).2.1 hselect)
    _ = _ := by rw [hwrap]

/-- ACT_COOL: output low, heater off, cooler on, duty loaded. -/
theorem run_cool {s : State} {rest : List AgentStep} (hcmd : s.cmd = none) (hifr : s.ifr = 0#5)
    (hphase : s.phase = 20#5) (hagenda : s.agenda = List.replicate 5 .seq ++ rest)
    (hselect : select s = .cool) :
    Sys2Proof.core.run 5 s = .next { s with
      flags := 0b10#2, hcon := 0b00#2, ccon := 1#1, cduty := s.raw1, port := [.setcduty s.raw1]
      phase := 25#5, agenda := rest, clock := s.clock + 5 } := by
  have hquiet := and_latches_of_ifr_zero hifr
  calc Sys2Proof.core.run 5 s
      = Sys2Proof.core.run 4 { s with
          flags := 0b10#2
          phase := 21#5, agenda := List.replicate 4 .seq ++ rest, clock := s.clock + 1, port := [] } :=
        run_phase hcmd hifr hagenda (hphase ▸ rfl) ((exec0WritesTheFlagsOfTheAction _).2.2 hselect)
    _ = Sys2Proof.core.run 3 { s with
          flags := 0b10#2, hcon := s.hcon &&& 0b01#2
          phase := 22#5, agenda := List.replicate 3 .seq ++ rest, clock := s.clock + 2
          port := [.sethout 0#1] } :=
        run_phase hcmd hifr rfl rfl ((exec1IssuesTheFirstStep _).2.2 hselect)
    _ = Sys2Proof.core.run 2 { s with
          flags := 0b10#2, hcon := 0b00#2, ifr := s.ifr &&& 0b11100#5
          phase := 23#5, agenda := List.replicate 2 .seq ++ rest, clock := s.clock + 3
          port := [.enhint 0#1] } :=
        run_phase hcmd hifr rfl rfl ((exec2IssuesTheSecondStep _).2.2 hselect)
    _ = Sys2Proof.core.run 1 { s with
          flags := 0b10#2, hcon := 0b00#2, ifr := s.ifr &&& 0b11100#5, ccon := 1#1
          phase := 24#5, agenda := List.replicate 1 .seq ++ rest, clock := s.clock + 4
          port := [.encpwm 1#1] } :=
        run_phase hcmd (hquiet.trans hifr) rfl rfl ((exec3IssuesTheThirdStep _).2.2 hselect)
    _ = .next { s with
          flags := 0b10#2, hcon := 0b00#2, ifr := s.ifr &&& 0b11100#5, ccon := 1#1, cduty := s.raw1
          phase := 25#5, agenda := rest, clock := s.clock + 5, port := [.setcduty s.raw1] } :=
        run_phase hcmd (hquiet.trans hifr) rfl rfl ((exec4LoadsCompareOrDuty _).2.2 hselect)
    _ = _ := by rw [hquiet]

/-- Settles O57, one run for each action. -/
theorem actionsCompleteInFiveSteps : Obligations.ActionsCompleteInFiveSteps :=
  fun _ _ hcmd hifr hphase hagenda =>
    ⟨fun hoff => run_shutOff hcmd hifr hphase hagenda (.inl hoff),
      fun hidle => run_shutOff hcmd hifr hphase hagenda (.inr hidle),
      run_heat hcmd hifr hphase hagenda, run_cool hcmd hifr hphase hagenda⟩

/-- Whatever the action, it writes FLAGS and the drives alone; ACT_OFF leaves the drives off. -/
theorem run_action {s : State} {rest : List AgentStep} (hcmd : s.cmd = none) (hifr : s.ifr = 0#5)
    (hphase : s.phase = 20#5) (hagenda : s.agenda = List.replicate 5 .seq ++ rest) :
    ∃ hcon ccon cduty hcmp port, Sys2Proof.core.run 5 s = .next { s with
        flags := actionFlags (select s), hcon := hcon, ccon := ccon, cduty := cduty, hcmp := hcmp
        port := port, phase := 25#5, agenda := rest, clock := s.clock + 5 } ∧
      (select s = .off → hcon = 0#2 ∧ ccon = 0#1 ∧ cduty = 0#10 ∧ hcmp = s.hcmp) := by
  cases hselect : select s with
  | off =>
    exact ⟨_, _, _, _, _, run_shutOff hcmd hifr hphase hagenda (.inl hselect),
      fun _ => ⟨rfl, rfl, rfl, rfl⟩⟩
  | idle =>
    exact ⟨_, _, _, _, _, run_shutOff hcmd hifr hphase hagenda (.inr hselect), fun h => by cases h⟩
  | heat => exact ⟨_, _, _, _, _, run_heat hcmd hifr hphase hagenda hselect, fun h => by cases h⟩
  | cool => exact ⟨_, _, _, _, _, run_cool hcmd hifr hphase hagenda hselect, fun h => by cases h⟩

/-! ### An iteration with no event (R266) -/

/-- The eight phases before the action: refresh, the three samples, three checks that find nothing, and
the display. -/
theorem run_to_exec {s : State} {rest : List AgentStep} (hcmd : s.cmd = none) (hifr : s.ifr = 0#5)
    (hpend : s.pend = 0#3) (hphase : s.phase = 0#5)
    (hagenda : s.agenda = List.replicate 8 .seq ++ rest) :
    Sys2Proof.core.run 8 s = .next { s with
      raw0 := s.adc0, raw1 := s.adc1, raw2 := s.adc2
      phase := 20#5, agenda := rest, clock := s.clock + 8
      port := [0#2, 1#2, 2#2, 3#2].map fun r =>
        .displine r ⟨s.mode, s.hys, s.adc0, s.adc1, s.adc2, s.flags⟩ } := by
  have hclear (k : Fin 3) : s.pendBit k = false := by simp [State.pendBit, hpend]
  calc Sys2Proof.core.run 8 s
      = Sys2Proof.core.run 7 { s with
          phase := 1#5, agenda := List.replicate 7 .seq ++ rest, clock := s.clock + 1
          port := [.wdtrefresh] } := run_phase (i := .seqSWdt) hcmd hifr hagenda (hphase ▸ rfl) rfl
    _ = Sys2Proof.core.run 6 { s with
          raw0 := s.adc0
          phase := 2#5, agenda := List.replicate 6 .seq ++ rest, clock := s.clock + 2
          port := [.sample 0 s.adc0] } := run_phase hcmd hifr rfl rfl rfl
    _ = Sys2Proof.core.run 5 { s with
          raw0 := s.adc0, raw1 := s.adc1
          phase := 3#5, agenda := List.replicate 5 .seq ++ rest, clock := s.clock + 3
          port := [.sample 1 s.adc1] } := run_phase hcmd hifr rfl rfl rfl
    _ = Sys2Proof.core.run 4 { s with
          raw0 := s.adc0, raw1 := s.adc1, raw2 := s.adc2
          phase := 4#5, agenda := List.replicate 4 .seq ++ rest, clock := s.clock + 4
          port := [.sample 2 s.adc2] } := run_phase hcmd hifr rfl rfl rfl
    _ = Sys2Proof.core.run 3 { s with
          raw0 := s.adc0, raw1 := s.adc1, raw2 := s.adc2
          phase := 9#5, agenda := List.replicate 3 .seq ++ rest, clock := s.clock + 5, port := [] } :=
        run_phase hcmd hifr rfl rfl
          (congrArg Host.Outcome.next (checkEvent_clear 0 _ _ _ (hclear 0)))
    _ = Sys2Proof.core.run 2 { s with
          raw0 := s.adc0, raw1 := s.adc1, raw2 := s.adc2
          phase := 14#5, agenda := List.replicate 2 .seq ++ rest, clock := s.clock + 6, port := [] } :=
        run_phase hcmd hifr rfl rfl
          (congrArg Host.Outcome.next (checkEvent_clear 1 _ _ _ (hclear 1)))
    _ = Sys2Proof.core.run 1 { s with
          raw0 := s.adc0, raw1 := s.adc1, raw2 := s.adc2
          phase := 19#5, agenda := List.replicate 1 .seq ++ rest, clock := s.clock + 7, port := [] } :=
        run_phase hcmd hifr rfl rfl
          (congrArg Host.Outcome.next (checkEvent_clear 2 _ _ _ (hclear 2)))
    _ = _ := run_phase hcmd hifr rfl rfl rfl

/-- Settles O58: eight phases to the action, its five steps, and S_PACE. -/
theorem iterationWithNoEventTakesFourteenSteps : Obligations.IterationWithNoEventTakesFourteenSteps := by
  intro s rest hcmd hifr hpend hphase hagenda
  have hsampled := run_to_exec (rest := List.replicate 6 .seq ++ rest) hcmd hifr hpend hphase hagenda
  obtain ⟨hcon, ccon, cduty, hcmp, port, haction, hoff⟩ := run_action (rest := List.replicate 1 .seq ++ rest)
    (s := { s with
      raw0 := s.adc0, raw1 := s.adc1, raw2 := s.adc2
      phase := 20#5, agenda := List.replicate 6 .seq ++ rest, clock := s.clock + 8
      port := [0#2, 1#2, 2#2, 3#2].map fun r =>
        .displine r ⟨s.mode, s.hys, s.adc0, s.adc1, s.adc2, s.flags⟩ }) hcmd hifr rfl rfl
  have hpace := (run_add (n := 6) hsampled).trans
    ((run_add (n := 1) haction).trans (run_phase (n := 0) (i := .seqSPace) hcmd hifr rfl rfl rfl))
  refine ⟨_, hpace, rfl, rfl, rfl, rfl, rfl, rfl, rfl, hpend, rfl, rfl, rfl, rfl, hifr, fun hmode => ?_⟩
  obtain ⟨hhcon, hccon, hcduty, hhcmp⟩ := hoff (select_of_off hmode)
  have hselect : select { s with raw0 := s.adc0, raw1 := s.adc1, raw2 := s.adc2 } = .off :=
    select_of_off hmode
  exact ⟨congrArg actionFlags hselect, hhcon, hccon, hcduty, hhcmp⟩

end Sys2Proof.Machine

/-! SUPPORT. The invariant of 10_state and 43_mode_machine: what each port operation and each agent does
to the drives, the pending flags and the heater output, and the obligations about every step. -/

namespace Sys2Proof.Machine

/-! ### Every agent answers -/

/-- Settles O47, by whose turn it is. -/
theorem safeMachineNeverStops : Obligations.SafeMachineNeverStops := by
  intro s hcmd hlegal
  obtain ⟨_, hturn⟩ | ⟨_, n, hpend, hturn⟩ | ⟨hoffer, hpend, _⟩ | ⟨_, _, _, _, hturn⟩ :=
    nextTurn_cases s hcmd
  · exact ⟨_, step_of_nextTurn_take hturn⟩
  · obtain ⟨k, rfl⟩ := exists_fin_of_pendingSource hpend
    exact ⟨_, step_handler hturn⟩
  · obtain ⟨_, t, _, hstep, _⟩ := step_sequencer hcmd hoffer hpend hlegal
    exact ⟨t, hstep⟩
  · exact ⟨_, step_of_nextTurn_take hturn⟩

/-! ### The request latches -/

theorem ifr_eq_zero_of_latches {s : State} (h : ∀ n : Fin 5, s.latch n = false) : s.ifr = 0#5 := by
  refine BitVec.eq_of_getLsbD_eq fun n hn => ?_
  simpa [State.latch] using h ⟨n, hn⟩

/-- With nothing requested, only a heater latch could be set, and only while HIE = 0. -/
theorem ifr_eq_zero_of_pendingSource_none {s : State} (hstale : NoStaleHeaterRequest s)
    (hpend : pendingSource s = none) : s.ifr = 0#5 := by
  refine ifr_eq_zero_of_latches fun n => ?_
  have hreq := requested_eq_false_of_pendingSource_none hpend n
  cases hhie : s.hie with
  | true =>
    match n with
    | 0 | 1 | 2 | 3 | 4 => simpa [requested, sourceEnabled, hhie] using hreq
  | false =>
    obtain ⟨h0, h1⟩ := hstale hhie
    match n with
    | 0 => exact h0
    | 1 => exact h1
    | 2 | 3 | 4 => simpa [requested, sourceEnabled] using hreq

/-- Settles O48: the turn of another agent means that nothing is requested. -/
theorem requestsAreClearWhenOthersStep : Obligations.RequestsAreClearWhenOthersStep := by
  intro s ⟨hcmd, _, _, _, hstale, _⟩ hev hreset
  obtain ⟨_, hturn⟩ | ⟨_, n, _, hturn⟩ | ⟨_, hpend, _⟩ | ⟨_, _, _, hpend, _⟩ := nextTurn_cases s hcmd
  · exact absurd hturn hreset
  · exact absurd hturn (hev n)
  · exact ifr_eq_zero_of_pendingSource_none hstale hpend
  · exact ifr_eq_zero_of_pendingSource_none hstale hpend

/-! ### The pending flags (R27) -/

theorem pendBit_serveInterrupt_button (j k : Fin 3) (s : State) :
    (serveInterrupt (buttonSource j) (fun s => s.setPend j true) s).pendBit k =
      if k = j then true else s.pendBit k := pendBit_setPend s j k true

/-- CHECK moves its own flag, and only down. -/
theorem pendBit_checkEvent (j k : Fin 3) (settle next : PhaseCode) (s : State) :
    (checkEvent j settle next s).pendBit k = if k = j then false else s.pendBit k := by
  cases h : s.pendBit j with
  | true =>
    rw [checkEvent_set _ _ _ _ h]
    exact pendBit_setPend s j k false
  | false =>
    rw [checkEvent_clear _ _ _ _ h]
    split
    · next hkj => rw [← h, hkj]; rfl
    · rfl

/-- What a step that runs the word `w` may do to PEND[k]: raise it as the handler of source 2 + k, drop
it as the check of event k. -/
def PendMove (w : Word) (k : Fin 3) (s t : State) : Prop :=
  t.pendBit k = s.pendBit k ∨
  (w = .ev (BitVec.ofNat 3 (2 + k.val)) ∧ t.pendBit k = true) ∨
  (w = .ph (BitVec.ofNat 5 (4 + 5 * k.val)) ∧ t.pendBit k = false)

theorem pendMove_of_handler (j k : Fin 3) (s : State) :
    PendMove (.ev (BitVec.ofNat 3 (2 + j.val))) k s
      (serveInterrupt (buttonSource j) (fun s => s.setPend j true) s) := by
  rw [PendMove, pendBit_serveInterrupt_button]
  by_cases hk : k = j
  · subst hk; exact .inr (.inl ⟨rfl, if_pos rfl⟩)
  · exact .inl (if_neg hk)

theorem pendMove_of_check (j k : Fin 3) (settle next : PhaseCode) (s : State) :
    PendMove (.ph (BitVec.ofNat 5 (4 + 5 * j.val))) k s (checkEvent j settle next s) := by
  rw [PendMove, pendBit_checkEvent]
  by_cases hk : k = j
  · subst hk; exact .inr (.inr ⟨rfl, if_pos rfl⟩)
  · exact .inl (if_neg hk)

theorem exec_pendMove {i : Instr} {s t : State} (h : exec i s = .next t) (k : Fin 3) :
    PendMove (encode i) k s t := by
  have hwrites := exec_writes h
  cases i with
  | irqBtn0edge => cases h; exact pendMove_of_handler 0 k s
  | irqBtn1edge => cases h; exact pendMove_of_handler 1 k s
  | irqBtn2edge => cases h; exact pendMove_of_handler 2 k s
  | seqSEv0Check => cases h; exact pendMove_of_check 0 k _ _ s
  | seqSEv1Check => cases h; exact pendMove_of_check 1 k _ _ s
  | seqSEv2Check => cases h; exact pendMove_of_check 2 k _ _ s
  | _ =>
    left
    rw [State.pendBit, hwrites.pend, State.pendBit]
    simp [mayWrite, handlerWrites, phaseWrites, encode, cmdWord]

/-- Of the steps without an encoding only RESET writes more than a counter, the buttons and IFR. -/
theorem takeStep_writes_of_ne_reset {a : UnencodedStep} (ha : a ≠ .reset) (s : State) :
    WritesOnly [.htmr, .cpwmcnt, .btnr, .ifr] s (takeStep a s) := by
  refine (takeStep_writes s a).mono ?_
  cases a with
  | reset => exact absurd rfl ha
  | _ => simp [mayWrite]

theorem beginTurn_pendBit (u : Turn) (s : State) (k : Fin 3) :
    (beginTurn u s).pendBit k = s.pendBit k := by
  have hpend : (beginTurn u s).pend = s.pend := BitVec.eq_of_toNat_eq (read_beginTurn .pend u s)
  rw [State.pendBit, hpend, State.pendBit]

/-- Settles O50: an encoded step by `exec_pendMove`; of the others RESET alone writes PEND. -/
theorem pendingFlagsRiseInHandlersAndFallInChecks :
    Obligations.PendingFlagsRiseInHandlersAndFallInChecks := by
  intro s t k hcmd hstep
  have of_keep (hkeep : t.pendBit k = s.pendBit k) {P Q : Prop} :
      (s.pendBit k = false → t.pendBit k = true → P) ∧ (s.pendBit k = true → t.pendBit k = false → Q) := by
    rw [hkeep]
    exact ⟨fun h0 h1 => by simp [h0] at h1, fun h1 h0 => by simp [h1] at h0⟩
  obtain ⟨w, i, hturn, hdec, hexec⟩ | ⟨a, hturn, ht⟩ := step_cases hstep
  · obtain rfl := word_eq_encode hcmd hturn hdec
    obtain hkeep | ⟨hword, hset⟩ | ⟨hword, hclear⟩ := exec_pendMove hexec k
    · exact of_keep (hkeep.trans (beginTurn_pendBit _ s k))
    · exact ⟨fun _ _ => hword ▸ hturn, fun _ h0 => by simp [hset] at h0⟩
    · exact ⟨fun _ h1 => by simp [hclear] at h1, fun _ _ => .inl (hword ▸ hturn)⟩
  · by_cases ha : a = .reset
    · subst ha ht
      exact ⟨fun _ h1 => by simp [takeStep, resetMachine, State.pendBit, State.reset] at h1,
        fun _ _ => .inr hturn⟩
    · have hpend := (takeStep_writes_of_ne_reset ha (beginTurn (.take a) s)).pend (by decide)
      rw [← ht] at hpend
      exact of_keep (by rw [State.pendBit, hpend, ← State.pendBit, beginTurn_pendBit])

/-! ### The heater output (R33) -/

theorem portEnhint_heatOut (b : BitVec 1) (s : State) (h : (portEnhint b s).heatOut = true) :
    s.heatOut = true := by
  obtain rfl | rfl := BitVec.eq_zero_or_eq_one b
  · simp [portEnhint_zero, State.heatOut] at h
  · simpa [portEnhint_one, State.heatOut] using h

theorem portSethout_zero_heatOut (s : State) : (portSethout 0#1 s).heatOut = false := by
  simp [portSethout_zero, State.heatOut]

/-- No command word of an action raises HEAT_OUT: SETHOUT 1 is none of them (U8). -/
theorem actionSteps_heatOut (a : Action) (s : State) :
    ((actionStep1 a s).heatOut = true → s.heatOut = true) ∧
    ((actionStep2 a s).heatOut = true → s.heatOut = true) ∧
    ((actionStep3 a s).heatOut = true → s.heatOut = true) := by
  have hsethout (h : (portSethout 0#1 s).heatOut = true) : s.heatOut = true := by
    simp [portSethout_zero_heatOut] at h
  cases a with
  | off | idle => exact ⟨portEnhint_heatOut 0#1 s, id, hsethout⟩
  | heat => exact ⟨id, id, portEnhint_heatOut 1#1 s⟩
  | cool => exact ⟨hsethout, portEnhint_heatOut 0#1 s, id⟩

theorem exec_heatOut {i : Instr} {s t : State} (h : exec i s = .next t) (hhigh : t.heatOut = true) :
    s.heatOut = true ∨ i = .irqTmrovf ∨ i = .sethout 1#1 := by
  have hwrites := exec_writes h
  cases i with
  | irqTmrovf => exact .inr (.inl rfl)
  | irqCmpmatch =>
    cases h
    rw [serveInterrupt_match] at hhigh
    simp [State.heatOut] at hhigh
  | enhint b => cases h; exact .inl (portEnhint_heatOut b s hhigh)
  | sethout b =>
    cases h
    obtain rfl | rfl := BitVec.eq_zero_or_eq_one b
    · simp [portSethout_zero_heatOut] at hhigh
    · exact .inr (.inr rfl)
  | seqSExec1 =>
    cases h
    obtain ⟨hkeep, _, _⟩ := actionSteps_heatOut (select s) s
    exact .inl (hkeep hhigh)
  | seqSExec2 =>
    cases h
    obtain ⟨_, hkeep, _⟩ := actionSteps_heatOut (select s) s
    exact .inl (hkeep hhigh)
  | seqSExec3 =>
    cases h
    obtain ⟨_, _, hkeep⟩ := actionSteps_heatOut (select s) s
    exact .inl (hkeep hhigh)
  | sample ch =>
    obtain ⟨k, rfl⟩ := execSample_next h
    exact .inl hhigh
  | btnstate id =>
    obtain ⟨k, rfl⟩ := execBtnstate_next h
    exact .inl hhigh
  | wdtrefresh | sethcmp | rsthtmr | setcduty | encpwm | displine => cases h; exact .inl hhigh
  | _ =>
    left
    rwa [heatOut_congr (hwrites.hcon (by decide))] at hhigh

theorem pendingSource_of_nextTurn {s : State} {n : SourceNumber} (hcmd : s.cmd = none)
    (hturn : nextTurn s = .run (.ev n)) : pendingSource s = some n := by
  obtain ⟨_, hother⟩ | ⟨_, m, hpend, hother⟩ | ⟨_, _, hother⟩ | ⟨_, _, _, _, hother⟩ :=
    nextTurn_cases s hcmd
  all_goals rw [hturn] at hother; cases hother
  exact hpend

theorem hie_of_pendingSource {s : State} {n : Fin 5} (hn : n.val < 2)
    (hpend : pendingSource s = some (BitVec.ofNat 3 n)) : s.hie = true := by
  obtain ⟨hreq, _⟩ := (pendingSource_eq_some_iff s n).mp hpend
  obtain ⟨_, henabled⟩ := (requested_iff s n).mp hreq
  exact henabled hn

/-- Settles O52: of the operations that raise HEAT_OUT only IRQ TMROVF is a turn of the machine, and it
is one only while HIE = 1. -/
theorem heaterRisesOnlyInTheOverflowHandler : Obligations.HeaterRisesOnlyInTheOverflowHandler := by
  intro s t hcmd hstep hlow hhigh
  have hbegin (u : Turn) : (beginTurn u s).heatOut = false :=
    (heatOut_congr (BitVec.eq_of_toNat_eq (read_beginTurn .hcon u s))).trans hlow
  obtain ⟨w, i, hturn, hdec, hexec⟩ | ⟨a, hturn, rfl⟩ := step_cases hstep
  · obtain rfl := word_eq_encode hcmd hturn hdec
    obtain hbefore | rfl | rfl := exec_heatOut hexec hhigh
    · simp [hbegin] at hbefore
    · exact ⟨hturn, hie_of_pendingSource (n := 0) (by decide) (pendingSource_of_nextTurn hcmd hturn)⟩
    · exact absurd hturn (nextTurn_ne_cw hcmd _)
  · by_cases ha : a = .reset
    · subst ha
      simp [takeStep, resetMachine, State.heatOut, State.reset] at hhigh
    · have hhcon := (takeStep_writes_of_ne_reset ha (beginTurn (.take a) s)).hcon (by decide)
      simp [heatOut_congr hhcon, hbegin] at hhigh

end Sys2Proof.Machine

/-! SUPPORT. The safe state of R43 and R229: what each update, each command word of an action and each
agent does to the drives, and the invariant over every step. -/

namespace Sys2Proof.Machine

/-! ### The drives -/

/-- The part of the invariant that speaks of HCON, IFR and CCON alone. -/
def DrivesSafe (s : State) : Prop :=
  HeaterLowWhenDisabled s ∧ NoStaleHeaterRequest s ∧ DrivesExclusive s

namespace DrivesSafe

variable {s t : State}

theorem congr (h : DrivesSafe s) (hhcon : t.hcon = s.hcon) (hifr : t.ifr = s.ifr)
    (hccon : t.ccon = s.ccon) : DrivesSafe t := by
  simpa only [DrivesSafe, HeaterLowWhenDisabled, NoStaleHeaterRequest, DrivesExclusive, hie_congr hhcon,
    heatOut_congr hhcon, latch_congr hifr, cpwmen_congr hccon] using h

/-- A heater latch may be set only while HIE = 1; any latch may be cleared. -/
theorem setLatch (h : DrivesSafe s) (n : Fin 5) (b : Bool) (hb : b = true → n.val < 2 → s.hie = true) :
    DrivesSafe (s.setLatch n b) := by
  obtain ⟨hlow, hstale, hexcl⟩ := h
  refine ⟨hlow, fun hoff => ?_, hexcl⟩
  have hoff' : s.hie = false := hoff
  obtain ⟨h0, h1⟩ := hstale hoff'
  have hclear (m : Fin 5) (hm : m.val < 2) (hbefore : s.latch m = false) :
      (s.setLatch n b).latch m = false := by
    rw [latch_setLatch]
    split
    · next hmn =>
      cases b with
      | false => rfl
      | true => simp [hb rfl (hmn ▸ hm)] at hoff'
    · exact hbefore
  exact ⟨hclear 0 (by decide) h0, hclear 1 (by decide) h1⟩

/-- HEAT_OUT may rise only while HIE = 1, and may always fall. -/
theorem setHeatOut (h : DrivesSafe s) (b : Bool) (hb : b = true → s.hie = true) :
    DrivesSafe (s.setHeatOut b) := by
  obtain ⟨_, hstale, hexcl⟩ := h
  refine ⟨fun hoff => ?_, fun hoff => ?_, ?_⟩
  · rw [hie_setHeatOut] at hoff
    rw [heatOut_setHeatOut]
    cases b with
    | false => rfl
    | true => simp [hb rfl] at hoff
  · rw [hie_setHeatOut] at hoff
    exact hstale hoff
  · rwa [DrivesExclusive, hie_setHeatOut]

theorem portEnhint_zero (s : State) : DrivesSafe (portEnhint 0#1 s) := by
  simp [DrivesSafe, Machine.portEnhint_zero, State.hie, State.heatOut, State.latch]

/-- The heater may be enabled only while the cooler is off. -/
theorem portEnhint_one (s : State) (hcool : s.cpwmen = false) : DrivesSafe (portEnhint 1#1 s) := by
  have hon : (portEnhint 1#1 s).hie = true := by simp [Machine.portEnhint_one, State.hie]
  have hcool' : (portEnhint 1#1 s).cpwmen = false := hcool
  simp [DrivesSafe, HeaterLowWhenDisabled, NoStaleHeaterRequest, DrivesExclusive, hon, hcool']

theorem portSethout_zero (h : DrivesSafe s) : DrivesSafe (portSethout 0#1 s) :=
  h.setHeatOut false nofun

/-- The cooler may be enabled only while the heater is disabled. -/
theorem portEncpwm (h : DrivesSafe s) (b : BitVec 1) (hb : b = 1#1 → s.hie = false) :
    DrivesSafe (portEncpwm b s) := by
  obtain ⟨hlow, hstale, _⟩ := h
  refine ⟨hlow, hstale, fun ⟨hon, hen⟩ => ?_⟩
  have hbit : b = 1#1 := by simpa using (cpwmen_setCpwmen s (b == 1#1)).symm.trans hen
  have hon' : s.hie = true := hon
  simp [hb hbit] at hon'

theorem serveInterrupt_handlerBody (h : DrivesSafe s) (n : Fin 5) (hn : n.val < 2 → s.hie = true) :
    DrivesSafe (serveInterrupt n (handlerBody n) s) := by
  have hbody : DrivesSafe (handlerBody n s) := by
    match n with
    | 0 => exact h.setHeatOut true fun _ => hn (by decide)
    | 1 => exact h.setHeatOut false nofun
    | 2 | 3 | 4 => exact h
  exact hbody.setLatch n false nofun

theorem latch_if (h : DrivesSafe s) (n : Fin 5) {p : Prop} [Decidable p] (hp : p → s.hie = true) :
    DrivesSafe (if p then s.setLatch n true else s) := by
  split
  · next hcond => exact h.setLatch n true fun _ _ => hp hcond
  · exact h

theorem hie_latch_if (s : State) (n : Fin 5) {p : Prop} [Decidable p] :
    (if p then s.setLatch n true else s).hie = s.hie := by
  split
  all_goals rfl

/-- A tick latches only while HIE = 1 (R182, R183). -/
theorem htick (h : DrivesSafe s) : DrivesSafe (htick s) := by
  have hcount : DrivesSafe (s.setHtmr (s.htmr + 1#16)) := h
  refine (hcount.latch_if 0 And.right).latch_if 1 fun ⟨_, hon⟩ => ?_
  exact (hie_latch_if _ 0).trans hon

theorem envBtn (h : DrivesSafe s) (k : Fin 3) (v : Bool) : DrivesSafe (envBtn k v s) := by
  unfold Machine.envBtn
  split
  · exact h
  · have hbtn : DrivesSafe (s.setBtn k v) := h
    refine hbtn.setLatch _ _ fun _ hlow => absurd hlow ?_
    rw [buttonSource_val]
    omega

end DrivesSafe

/-! ### The steps of an action (R229) -/

theorem WritesOnly.select {ws : List Reg} {s t : State} (h : WritesOnly ws s t)
    (hws : .mode ∉ ws ∧ .hys ∉ ws ∧ .raw0 ∉ ws ∧ .raw2 ∉ ws) : select t = select s := by
  obtain ⟨hmode, hhys, hraw0, hraw2⟩ := hws
  exact select_congr (h.mode hmode) (h.hys hhys) (h.raw0 hraw0) (h.raw2 hraw2)

/-- Step 1: ACT_HEAT switches the cooler off first. -/
theorem actionStep1_drives (a : Action) {s : State} (h : DrivesSafe s) :
    DrivesSafe (actionStep1 a s) ∧ (a = .heat → (actionStep1 a s).cpwmen = false) := by
  cases a with
  | off | idle => exact ⟨DrivesSafe.portEnhint_zero s, nofun⟩
  | heat => exact ⟨h.portEncpwm 0#1 fun hb => absurd hb (by decide), fun _ => cpwmen_setCpwmen s false⟩
  | cool => exact ⟨h.portSethout_zero, nofun⟩

/-- Step 2: ACT_HEAT leaves the cooler off, ACT_COOL switches the heater off. -/
theorem actionStep2_drives (a : Action) {s : State} (h : DrivesSafe s)
    (hheat : a = .heat → s.cpwmen = false) :
    DrivesSafe (actionStep2 a s) ∧ (a = .heat → (actionStep2 a s).cpwmen = false) ∧
      (a = .cool → (actionStep2 a s).hie = false) := by
  cases a with
  | off | idle => exact ⟨h.portEncpwm 0#1 fun hb => absurd hb (by decide), nofun, nofun⟩
  | heat => exact ⟨h, hheat, nofun⟩
  | cool =>
    refine ⟨DrivesSafe.portEnhint_zero s, nofun, fun _ => ?_⟩
    simp [actionStep2, portEnhint_zero, State.hie]

/-- Step 3 enables the one drive whose other is off by now. -/
theorem actionStep3_drives (a : Action) {s : State} (h : DrivesSafe s)
    (hheat : a = .heat → s.cpwmen = false) (hcool : a = .cool → s.hie = false) :
    DrivesSafe (actionStep3 a s) := by
  cases a with
  | off | idle => exact h.portSethout_zero
  | heat => exact DrivesSafe.portEnhint_one s (hheat rfl)
  | cool => exact h.portEncpwm 1#1 fun _ => hcool rfl

/-! ### A phase -/

/-- The codes between two steps of an action are entered from the code before alone (R265). -/
theorem successor_eq_exec : ∀ (p : PhaseCode) (pending released : Bool),
    (successor p pending released = sExec2 → p = sExec1) ∧
    (successor p pending released = sExec3 → p = sExec2) := by decide

/-- The phases that write no register the drives depend on. -/
abbrev QuietPhase (p : PhaseCode) : Prop :=
  .hcon ∉ phaseWrites p ∧ .ifr ∉ phaseWrites p ∧ .ccon ∉ phaseWrites p

/-- S_EXEC1, S_EXEC2 and S_EXEC3 alone are not quiet. -/
theorem quietPhase_or_exec :
    ∀ p : PhaseCode, p = sExec1 ∨ p = sExec2 ∨ p = sExec3 ∨ QuietPhase p := by decide

/-- After a quiet phase PHASE stands at neither of the codes that ShutOffFirst speaks of. -/
theorem drives_of_quietPhase {p : PhaseCode} {i : Instr} {s t : State} (hquiet : QuietPhase p)
    (hdec : decodePH p = .ok i) (h : exec i s = .next t) (hs : DrivesSafe s) :
    DrivesSafe t ∧ ShutOffFirst t := by
  have hwrites := exec_writes h
  rw [encode_of_decodePH hdec] at hwrites
  obtain ⟨hhcon, hifr, hccon⟩ := hquiet
  obtain ⟨hexec2, hexec3⟩ := successor_eq_exec p (s.pendBit (eventOf p)) (s.btn (eventOf p))
  rw [← exec_successor hdec h] at hexec2 hexec3
  have hne2 : t.phase ≠ sExec2 := fun ht => hhcon (hexec2 ht ▸ by decide)
  have hne3 : t.phase ≠ sExec3 := fun ht => hhcon (hexec3 ht ▸ by decide)
  refine ⟨hs.congr (hwrites.hcon ?_) (hwrites.ifr ?_) (hwrites.ccon ?_),
    fun _ hphase => hphase.elim (absurd · hne2) (absurd · hne3), fun _ hphase => absurd hphase hne3⟩
  all_goals simp [mayWrite, hhcon, hifr, hccon]

/-- A phase keeps the drives safe, and what R229 uses between the steps of an action. -/
theorem exec_phase_drives {i : Instr} {s t : State} (hdec : decodePH s.phase = .ok i)
    (h : exec i s = .next t) (hs : DrivesSafe s) (hshut : ShutOffFirst s) :
    DrivesSafe t ∧ ShutOffFirst t := by
  obtain ⟨hheat, hcool⟩ := hshut
  obtain hphase | hphase | hphase | hquiet := quietPhase_or_exec s.phase
  · rw [hphase] at hdec
    cases hdec
    have hselect : select t = select s := (exec_writes h).select (by decide)
    cases h
    obtain ⟨hdrives, hoff⟩ := actionStep1_drives (select s) hs
    exact ⟨hdrives, fun hsel _ => hoff (hselect.symm.trans hsel), fun _ ht => by cases ht⟩
  · rw [hphase] at hdec
    cases hdec
    have hselect : select t = select s := (exec_writes h).select (by decide)
    cases h
    obtain ⟨hdrives, hcoolOff, hheatOff⟩ := actionStep2_drives (select s) hs fun ha => hheat ha (.inl hphase)
    exact ⟨hdrives, fun hsel _ => hcoolOff (hselect.symm.trans hsel),
      fun hsel _ => hheatOff (hselect.symm.trans hsel)⟩
  · rw [hphase] at hdec
    cases hdec
    cases h
    refine ⟨actionStep3_drives (select s) hs (fun ha => hheat ha (.inr hphase)) fun ha => hcool ha hphase,
      fun _ ht => ?_, fun _ ht => ?_⟩
    · obtain ht | ht := ht
      all_goals cases ht
    · cases ht
  · exact drives_of_quietPhase hquiet hdec h hs

/-! ### FLAGS (R26, R43) -/

theorem actionFlags_ne : ∀ a : Action, actionFlags a ≠ 0b11#2
  | .off | .heat | .cool | .idle => by decide

/-- Only S_EXEC0 writes FLAGS, with the pair of an action. -/
theorem exec_flags {i : Instr} {s t : State} (h : exec i s = .next t) (hs : LegalFlags s) :
    LegalFlags t := by
  have hwrites := exec_writes h
  cases i with
  | seqSExec0 => cases h; exact actionFlags_ne _
  | _ =>
    rw [LegalFlags, hwrites.flags]
    · exact hs
    · simp [mayWrite, handlerWrites, phaseWrites, encode, cmdWord]

/-! ### Every step -/

theorem safeState_iff (s : State) :
    SafeState s ↔ s.cmd = none ∧ LegalPhase s ∧ LegalFlags s ∧ DrivesSafe s ∧ ShutOffFirst s := by
  simp only [SafeState, DrivesSafe, and_assoc]

/-- Settles O45, by evaluation of the one state. -/
theorem resetStateIsSafe : Obligations.ResetStateIsSafe := by
  unfold Obligations.ResetStateIsSafe SafeState
  decide

/-- The registers of the invariant are those of the state before the turn began. -/
theorem safeState_beginTurn {s : State} (t : Turn) (h : SafeState s) : SafeState (beginTurn t s) := by
  obtain ⟨hcmd, hregs⟩ := h
  refine ⟨?_, ?_⟩
  · cases t with
    | run w => cases w with
      | cw _ => rfl
      | ev _ | ph _ => exact hcmd
    | take _ => exact hcmd
  · cases t with
    | run w => cases w <;> exact hregs
    | take _ => exact hregs

/-- A step that leaves PHASE, FLAGS, CPWMEN, HIE and the operands of the selection alone has only the
drives to answer for. -/
theorem SafeState.of_writes {ws : List Reg} {s t : State} (hs : SafeState s) (h : WritesOnly ws s t)
    (hws : ∀ r ∈ [Reg.mode, .hys, .raw0, .raw2, .flags, .phase, .ccon], r ∉ ws) (hhie : t.hie = s.hie)
    (hdrives : DrivesSafe t) : SafeState t := by
  simp only [List.forall_mem_cons] at hws
  obtain ⟨hmode, hhys, hraw0, hraw2, hflags, hphase, hccon, _⟩ := hws
  obtain ⟨hcmd, hlegal, hlegalFlags, _, hshut⟩ := (safeState_iff s).mp hs
  refine (safeState_iff t).mpr ⟨h.cmd_eq.trans hcmd, ?_, ?_, hdrives, ?_⟩
  · rwa [LegalPhase, h.phase hphase]
  · rwa [LegalFlags, h.flags hflags]
  · rwa [ShutOffFirst, h.phase hphase, h.select ⟨hmode, hhys, hraw0, hraw2⟩, cpwmen_congr (h.ccon hccon),
      hhie]

theorem handler_writes (n : Fin 5) (s : State) :
    WritesOnly [.hcon, .htmr, .pend, .ifr] s (serveInterrupt n (handlerBody n) s) := by
  obtain ⟨i, hdec, hexec⟩ := exec_handler n
  have hwrites := exec_writes (hexec s)
  rw [encode_of_decodeEV hdec] at hwrites
  refine hwrites.mono ?_
  match n with
  | 0 | 1 | 2 | 3 | 4 => decide

/-- No handler touches HIE (R320). -/
theorem hie_handler (n : Fin 5) (s : State) : (serveInterrupt n (handlerBody n) s).hie = s.hie := by
  match n with
  | 0 => exact hie_setHeatOut s true
  | 1 => exact hie_setHeatOut s false
  | 2 | 3 | 4 => rfl

theorem SafeState.handler {s : State} (hs : SafeState s) (n : Fin 5) (hn : n.val < 2 → s.hie = true) :
    SafeState (serveInterrupt n (handlerBody n) s) := by
  obtain ⟨_, _, _, hdrives, _⟩ := (safeState_iff s).mp hs
  exact hs.of_writes (handler_writes n s) (by decide) (hie_handler n s)
    (hdrives.serveInterrupt_handlerBody n hn)

theorem SafeState.phase {s t : State} {i : Instr} (hs : SafeState s) (hdec : decodePH s.phase = .ok i)
    (h : exec i s = .next t) : SafeState t := by
  obtain ⟨hcmd, hlegal, hflags, hdrives, hshut⟩ := (safeState_iff s).mp hs
  obtain ⟨hdrives', hshut'⟩ := exec_phase_drives hdec h hdrives hshut
  have hlegal' : LegalPhase t := (exec_phase h).elim (fun hkeep => by rwa [LegalPhase, hkeep]) id
  exact (safeState_iff t).mpr
    ⟨(exec_writes h).cmd_eq.trans hcmd, hlegal', exec_flags h hflags, hdrives', hshut'⟩

theorem SafeState.takeStep {s : State} (hs : SafeState s) (a : UnencodedStep) :
    SafeState (takeStep a s) := by
  obtain ⟨hcmd, _, _, hdrives, _⟩ := (safeState_iff s).mp hs
  by_cases ha : a = .reset
  · subst ha
    obtain ⟨_, hregs⟩ := resetStateIsSafe
    exact ⟨hcmd, hregs⟩
  · have hwrites := takeStep_writes_of_ne_reset ha s
    refine hs.of_writes hwrites (by decide) (hie_congr (hwrites.hcon (by decide))) ?_
    cases a with
    | htick => exact hdrives.htick
    | envBtn k v => exact hdrives.envBtn k v
    | ctick | envAdc k v => exact hdrives
    | reset => exact absurd rfl ha

/-- Settles O46, by whose turn it is. -/
theorem everyStepKeepsTheSafeState : Obligations.EveryStepKeepsTheSafeState := by
  intro s t hs hstep
  obtain ⟨hcmd, hlegal, _⟩ := (safeState_iff s).mp hs
  obtain ⟨_, hturn⟩ | ⟨_, n, hpend, hturn⟩ | ⟨hoffer, hpend, _⟩ | ⟨a, _, _, _, hturn⟩ :=
    nextTurn_cases s hcmd
  · cases (step_of_nextTurn_take hturn).symm.trans hstep
    exact (safeState_beginTurn (.take .reset) hs).takeStep .reset
  · obtain ⟨k, rfl⟩ := exists_fin_of_pendingSource hpend
    cases (step_handler hturn).symm.trans hstep
    have hbegin : SafeState (freshTurn s) := safeState_beginTurn (.run (.ev (BitVec.ofNat 3 k))) hs
    exact hbegin.handler k fun hk => hie_of_pendingSource hk hpend
  · obtain ⟨i, u, hdec, hrun, hexec⟩ := step_sequencer hcmd hoffer hpend hlegal
    cases hrun.symm.trans hstep
    exact (safeState_beginTurn (.run (.ph s.phase)) hs).phase hdec hexec
  · cases (step_of_nextTurn_take hturn).symm.trans hstep
    exact (safeState_beginTurn (.take a) hs).takeStep a

end Sys2Proof.Machine

/-! SUPPORT. The heater period of 42_heater_timing: one tick and the two heater handlers as steps of the
machine, runs of ticks that latch nothing, and O59 and O60 assembled from them. -/

namespace Sys2Proof.Machine

/-! ### One tick and one handler -/

/-- A tick with no latch set: the new count `t`, and the latches `x` it sets (R181 to R183). -/
theorem step_htick {s : State} {t : Count} {x : BitVec 5} {rest : List AgentStep} (hcmd : s.cmd = none)
    (hifr : s.ifr = 0#5) (hagenda : s.agenda = .other .htick :: rest) (ht : s.htmr + 1#16 = t)
    (hx : ((if t = 0#16 ∧ s.hie = true then 0b00001#5 else 0#5) |||
      (if t = s.hcmp ∧ s.hie = true then 0b00010#5 else 0#5)) = x) :
    step s = .next { s with
      htmr := t, ifr := x, port := [], clock := s.clock + 1, agenda := rest } := by
  have hoffer : offer s = .other .htick := by simp [offer, hagenda]
  have hturn := nextTurn_take hcmd hoffer (pendingSource_of_ifr_zero hifr)
  subst ht hx
  rw [step_of_nextTurn_take hturn, beginTurn_take, hagenda, takeStep, htick]
  simp only [setLatch_of_prop, State.setHtmr, hifr, BitVec.zero_or]
  rfl

/-- A latched overflow is served first (R184); `x` are the latches that stay. -/
theorem step_overflow {s : State} {x : BitVec 5} (hcmd : s.cmd = none) (hoffer : offer s ≠ .other .reset)
    (hlatch : s.latch 0 = true) (hhie : s.hie = true) (hx : s.ifr &&& 0b11110#5 = x) :
    nextTurn s = .run (.ev 0#3) ∧ step s = .next { s with
      hcon := s.hcon ||| 0b10#2, htmr := 0#16, ifr := x, port := [.rsthtmr], clock := s.clock + 1 } := by
  have hpend : pendingSource s = some 0#3 :=
    (pendingSource_eq_some_iff s 0).mpr ⟨by simp [requested, sourceEnabled, hlatch, hhie], by simp⟩
  have hturn := nextTurn_of_pendingSource hcmd hoffer hpend
  subst hx
  exact ⟨hturn, (step_handler (n := 0) hturn).trans (congrArg _ (serveInterrupt_overflow _))⟩

/-- A latched match alone is served by the handler that drives the output low (R185). -/
theorem step_match {s : State} (hcmd : s.cmd = none) (hoffer : offer s ≠ .other .reset)
    (hifr : s.ifr = 0b00010#5) (hhie : s.hie = true) :
    nextTurn s = .run (.ev 1#3) ∧ step s = .next { s with
      hcon := s.hcon &&& 0b01#2, ifr := 0#5, port := [], clock := s.clock + 1 } := by
  have hpend : pendingSource s = some 1#3 := by
    refine (pendingSource_eq_some_iff s 1).mpr ⟨?_, fun m hm => ?_⟩
    · simp [requested, sourceEnabled, State.latch, hifr, hhie]
    · obtain rfl : m = 0 := by omega
      simp [requested, State.latch, hifr]
  have hturn := nextTurn_of_pendingSource hcmd hoffer hpend
  have hstep := (step_handler (n := 1) hturn).trans (congrArg _ (serveInterrupt_match _))
  have hcleared : (freshTurn s).ifr &&& 0b11101#5 = 0#5 := by
    rw [freshTurn_ifr, hifr]; rfl
  rw [hcleared] at hstep
  exact ⟨hturn, hstep⟩

/-! ### HCMP = 0 -/

/-- Settles O60: the tick that wraps also matches, and the lower source is served first. -/
theorem zeroCompareValueGivesZeroDuty : Obligations.ZeroCompareValueGivesZeroDuty := by
  intro s rest hcmd hifr hhie hhcmp hhtmr hagenda
  have htick := step_htick (t := 0#16) (x := 0b00011#5) hcmd hifr hagenda (by rw [hhtmr]; rfl)
    (by simp [hhcmp, hhie])
  obtain ⟨hturn, hoverflow⟩ := step_overflow (x := 0b00010#5) (s := { s with
    htmr := 0#16, ifr := 0b00011#5, port := [], clock := s.clock + 1, agenda := .seq :: rest }) hcmd
    nofun (by simp [State.latch]) hhie (by simp)
  obtain ⟨hturn', hmatch⟩ := step_match (s := { s with
    hcon := s.hcon ||| 0b10#2, htmr := 0#16, ifr := 0b00010#5, port := [.rsthtmr], clock := s.clock + 1 + 1
    agenda := .seq :: rest }) hcmd nofun rfl ((hie_setHeatOut s true).trans hhie)
  refine ⟨_, _, _, htick, rfl, rfl, hturn, hoverflow, heatOut_setHeatOut s true, rfl, hturn', hmatch, ?_,
    rfl, rfl, nextTurn_seq hcmd rfl (pendingSource_of_ifr_zero (by rfl))⟩
  exact heatOut_setHeatOut (s.setHeatOut true) false

/-! ### Ticks that latch nothing -/

theorem run_quiet_ticks {n : Nat} {s : State} {rest : List AgentStep} (hcmd : s.cmd = none)
    (hifr : s.ifr = 0#5) (hagenda : s.agenda = List.replicate n (.other .htick) ++ rest)
    (hwrap : s.htmr.toNat + n < 65536)
    (hmatch : ∀ j, 0 < j → j ≤ n → s.htmr.toNat + j ≠ s.hcmp.toNat) :
    ∃ port, Sys2Proof.core.run n s = .next { s with
      htmr := s.htmr + BitVec.ofNat 16 n, agenda := rest, clock := s.clock + n, port := port } := by
  induction n generalizing s with
  | zero =>
    refine ⟨s.port, ?_⟩
    rw [List.replicate_zero, List.nil_append] at hagenda
    simp [← hagenda, Host.Core.run]
  | succ n ih =>
    have hnext : (s.htmr + 1#16).toNat = s.htmr.toNat + 1 := by
      rw [BitVec.toNat_add, BitVec.toNat_ofNat]; omega
    have hstep := step_htick (x := 0#5) hcmd hifr hagenda rfl (by
      have hzero : s.htmr + 1#16 ≠ 0#16 := fun h => by simp [h] at hnext
      have hne : s.htmr + 1#16 ≠ s.hcmp := fun h => hmatch 1 (by omega) (by omega) (h ▸ hnext.symm)
      simp [hzero, hne])
    obtain ⟨port, hrun⟩ := ih (s := { s with
      htmr := s.htmr + 1#16, ifr := 0#5, port := [], clock := s.clock + 1
      agenda := List.replicate n (.other .htick) ++ rest }) hcmd rfl rfl (by simp only [hnext]; omega)
      (fun j hpos hle => by
        have hj := hmatch (1 + j) (by omega) (by omega)
        simp only [hnext]
        omega)
    refine ⟨port, (run_succ hstep).trans (hrun.trans ?_)⟩
    have hcount : s.htmr + 1#16 + BitVec.ofNat 16 n = s.htmr + BitVec.ofNat 16 (n + 1) := by
      rw [BitVec.add_assoc, ← BitVec.ofNat_add, Nat.add_comm]
    simp only [hcount, hifr]
    rw [Nat.add_assoc, Nat.add_comm 1 n]

/-! ### A period (R188) -/

/-- The agenda of O59 never offers RESET. -/
theorem offer_ticks_ne_reset {s : State} {k : Nat} {rest : List AgentStep}
    (hagenda : s.agenda = List.replicate k (.other .htick) ++ .seq :: rest) :
    offer s ≠ .other .reset := by
  cases k with
  | zero => simp [offer, hagenda]
  | succ k => simp [offer, hagenda, List.replicate_succ]

/-- From HTMR = 0, the ticks before the one to HCMP only count. -/
theorem run_before_match {n : Nat} {s : State} {rest : List AgentStep} (hcmd : s.cmd = none)
    (hifr : s.ifr = 0#5) (hhtmr : s.htmr = 0#16) (hbefore : n < s.hcmp.toNat)
    (hagenda : s.agenda = List.replicate n (.other .htick) ++ rest) :
    ∃ port, Sys2Proof.core.run n s = .next { s with
      htmr := BitVec.ofNat 16 n, agenda := rest, clock := s.clock + n, port := port } := by
  have hhcmp : s.hcmp.toNat < 65536 := s.hcmp.isLt
  have hzero : s.htmr.toNat = 0 := congrArg BitVec.toNat hhtmr
  obtain ⟨port, hrun⟩ := run_quiet_ticks hcmd hifr hagenda (by omega) (fun j _ hle => by omega)
  rw [hhtmr, BitVec.zero_add] at hrun
  exact ⟨port, hrun⟩

/-- The tick to HCMP latches the match, and its handler comes next and drives the output low. -/
theorem run_match {k : Nat} {s : State} {rest : List AgentStep} (hcmd : s.cmd = none) (hifr : s.ifr = 0#5)
    (hhie : s.hie = true) (hhcmp : s.hcmp ≠ 0#16) (hhtmr : s.htmr + 1#16 = s.hcmp)
    (hagenda : s.agenda = List.replicate (k + 1) (.other .htick) ++ .seq :: rest) :
    Sys2Proof.core.run 2 s = .next { s with
      htmr := s.hcmp, hcon := s.hcon &&& 0b01#2, ifr := 0#5, port := [], clock := s.clock + 1 + 1
      agenda := List.replicate k (.other .htick) ++ .seq :: rest } := by
  have htick := step_htick (x := 0b00010#5) hcmd hifr hagenda hhtmr (by simp [hhcmp, hhie])
  obtain ⟨_, hmatch⟩ := step_match (s := { s with
    htmr := s.hcmp, ifr := 0b00010#5, port := [], clock := s.clock + 1
    agenda := List.replicate k (.other .htick) ++ .seq :: rest }) hcmd (offer_ticks_ne_reset rfl) rfl hhie
  exact (run_succ htick).trans (run_succ hmatch)

/-- From HTMR = 0, HCMP ticks and those after them, with the one handler between. -/
theorem run_past_match {n : Nat} {s : State} {rest : List AgentStep} (hcmd : s.cmd = none)
    (hifr : s.ifr = 0#5) (hhie : s.hie = true) (hhcmp : s.hcmp ≠ 0#16) (hhtmr : s.htmr = 0#16)
    (hn : n < 65536) (hpast : s.hcmp.toNat ≤ n)
    (hagenda : s.agenda = List.replicate n (.other .htick) ++ .seq :: rest) :
    ∃ port clock, Sys2Proof.core.run (n + 1) s = .next { s with
      htmr := BitVec.ofNat 16 n, hcon := s.hcon &&& 0b01#2, ifr := 0#5, agenda := .seq :: rest
      clock := clock, port := port } := by
  have hpos : 0 < s.hcmp.toNat := by
    by_contra hzero
    exact hhcmp (BitVec.eq_of_toNat_eq (by simpa using hzero))
  obtain ⟨m, hm⟩ := Nat.exists_eq_add_of_le' hpos
  obtain ⟨k, rfl⟩ := Nat.exists_eq_add_of_le hpast
  have hcount : BitVec.ofNat 16 m + 1#16 = s.hcmp := BitVec.eq_of_toNat_eq (by simp [hm]; omega)
  have hsplit : s.hcmp.toNat + k = m + (k + 1) := by omega
  rw [hsplit, List.replicate_add, List.append_assoc] at hagenda
  obtain ⟨port, hbefore⟩ := run_before_match hcmd hifr hhtmr (by omega) hagenda
  have hmatch := run_match (s := { s with
    htmr := BitVec.ofNat 16 m, agenda := List.replicate (k + 1) (.other .htick) ++ .seq :: rest
    clock := s.clock + m, port := port }) hcmd hifr hhie hhcmp hcount rfl
  obtain ⟨port', hafter⟩ := run_quiet_ticks (n := k) (s := { s with
    htmr := s.hcmp, hcon := s.hcon &&& 0b01#2, ifr := 0#5, port := [], clock := s.clock + m + 1 + 1
    agenda := List.replicate k (.other .htick) ++ .seq :: rest }) hcmd rfl rfl hn
    (fun j _ _ => by simp; omega)
  refine ⟨port', s.clock + m + 1 + 1 + k, ?_⟩
  have hsteps : s.hcmp.toNat + k + 1 = m + (2 + k) := by omega
  have hfinal : s.hcmp + BitVec.ofNat 16 k = BitVec.ofNat 16 (s.hcmp.toNat + k) := by
    rw [BitVec.ofNat_add, BitVec.ofNat_toNat, BitVec.setWidth_eq]
  rw [hsteps, run_add hbefore, run_add hmatch, hafter]
  simp only [hfinal]

/-- Settles O59: before the match and past it by the two runs, and the wrap by one tick and its
handler. -/
theorem heaterDutyIsTheCompareValue : Obligations.HeaterDutyIsTheCompareValue := by
  refine ⟨fun n s rest hn hcmd hifr hhie hhcmp hhtmr hhigh hagenda => ?_,
    fun s rest hcmd hifr hhie hhcmp hhtmr hagenda => ?_⟩
  · by_cases hbefore : n < s.hcmp.toNat
    · obtain ⟨port, hrun⟩ := run_before_match hcmd hifr hhtmr hbefore hagenda
      rw [if_pos hbefore]
      exact ⟨_, hrun, Nat.mod_eq_of_lt hn, hhigh.trans (decide_eq_true hbefore).symm, hhie, rfl, hifr,
        hcmd, rfl⟩
    · obtain ⟨port, clock, hrun⟩ :=
        run_past_match hcmd hifr hhie hhcmp hhtmr hn (Nat.le_of_not_lt hbefore) hagenda
      rw [if_neg hbefore]
      exact ⟨_, hrun, Nat.mod_eq_of_lt hn, by simp [State.heatOut, hbefore],
        (hie_setHeatOut s false).trans hhie, rfl, rfl, hcmd, rfl⟩
  · have htick := step_htick (t := 0#16) (x := 0b00001#5) hcmd hifr hagenda (by rw [hhtmr]; rfl)
      (by simp [hhcmp.symm, hhie])
    obtain ⟨_, hoverflow⟩ := step_overflow (x := 0#5) (s := { s with
      htmr := 0#16, ifr := 0b00001#5, port := [], clock := s.clock + 1, agenda := .seq :: rest }) hcmd
      nofun (by simp [State.latch]) hhie (by simp)
    exact ⟨_, (run_succ htick).trans (run_succ hoverflow), rfl, heatOut_setHeatOut s true,
      (hie_setHeatOut s true).trans hhie, rfl, rfl, rfl⟩

end Sys2Proof.Machine
